-- ==== Sys2Proof/Word.lean ====
section
/-! DEFINITION. The byte type of the two links and the fixed numbers of the LC384 that several blocks use. -/

namespace Sys2Proof

/-- One character's data bits on either link (R180, R191). -/
abbrev Byte := BitVec 8

/-- The line-seconds counter and every stamp count modulo this number (R134). -/
abbrev secondsModulus : Nat := 4294967296

/-- The greatest current, in counts of 10 A (00_scope, 5.1); also the lifted value of a limit (R117). -/
abbrev topCurrent : Nat := 65535

/-- The positions of the line (R1). -/
abbrev potCount : Nat := 384

/-- The unit numbers (R82). -/
abbrev unitCount : Nat := 8

/-- The field link node addresses run from 1 to this number (R181). -/
abbrev topNode : Nat := 62

/-- The greatest power limit in kW that a table, a curtailment or the shed limit can hold (R128, R156, R162). -/
abbrev topLimit : Nat := 16777215

/-- The seconds of a day (R135). -/
abbrev daySeconds : Nat := 86400

end Sys2Proof
end

