-- ==== Sys2Proof/Config.lean ====
section
/-! DEFINITION. The free values: what the spec leaves open, each a constant without a body. -/

namespace Sys2Proof

/-- What the two bytes of a current carry where the current is above 65,535 (R198). F, the sum of the frozen demands, and
a setpoint set to F can be that large (R122), and the spec names no clamp for them. DESIGN CHOICE: free, a function of
the current; notes/assumptions/1. -/
opaque Config.currentBeyond : Nat → BitVec 16

end Sys2Proof
end

