-- ==== Sys2Proof/Syntax.lean ====
section
/-! DEFINITION. The commands of the block: one constructor of Instr per row of spec/opcode_table.json, with the
operands the row's request or event carries. A request's numbers are held as sent (a code outside its list is a value
the serving rule refuses), so an operand is a Nat and WellFormed.lean says which values its bytes can spell. -/

namespace Sys2Proof

/-- The link status of a frame (R187, R192, R195). -/
inductive LinkStatus where
  | ok | sum | form | unknown
deriving DecidableEq, Repr

/-- The kind of a poll ring entry (R181). -/
inductive NodeKind where
  | potNode | unitNode
deriving DecidableEq, Repr

/-- One character as the field receiver takes it: its mark bit and its data bits (R180). -/
structure FieldChar where
  mark : Bool
  data : Byte
deriving DecidableEq, Repr

/-- One character as the line master receiver takes it: whether its stop bit was a space (R191), and its data bits. -/
structure PortChar where
  framingError : Bool
  data : Byte
deriving DecidableEq, Repr

/-- One item of a POT REPORT frame (R14, R198). -/
structure ReportItem where
  position : Nat
  tag : Nat
  voltage : Nat
deriving DecidableEq, Repr

/-- A change point of a day schedule: a second of the day and a band (R162). -/
structure ChangePoint where
  second : Nat
  band : Nat
deriving DecidableEq, Repr

/-- The HEADER section of a tariff load (R165): four band limits whatever the band count. -/
structure TariffHeader where
  length : Nat
  bandCount : Nat
  limit1 : Nat
  limit2 : Nat
  limit3 : Nat
  limit4 : Nat
  restMask : Nat
deriving DecidableEq, Repr

/-- The section one LOAD TARIFF frame carries (R165, R197). A WORKING or REST section's point count is the number of
points it carries (R199: the size 2 + 5 × points is checked before the frame is a request). -/
inductive TariffPart where
  | header (h : TariffHeader)
  | working (points : List ChangePoint)
  | rest (points : List ChangePoint)
deriving DecidableEq, Repr

/-- The commands: every row of spec/opcode_table.json. Each docstring names the rule the row cites. -/
inductive Instr where
  /-- RESET (R133): RESETN or power-on. -/
  | reset
  /-- DISPATCH_CYCLE (R112). `arbiterFirst`: the Quench Arbiter's grant evaluation is taken before the Dispatcher's own
  work at the cycle (R48: either order). -/
  | dispatchCycle (arbiterFirst : Bool)
  /-- METERING_TICK (R136). `shed`: the level of the SHED input that the tick samples. -/
  | meteringTick (shed : Bool)
  /-- DAY_ROLLOVER (R135): the metering tick at which the time of day passes midnight. -/
  | dayRollover (shed : Bool)
  /-- INTERVAL_CLOSE (R145): the metering tick at which the interval in progress closes. -/
  | intervalClose (shed : Bool)
  /-- CURTAILMENT_EXPIRY (R157): the metering tick at which the active curtailment ends. -/
  | curtailmentExpiry (shed : Bool)
  /-- POT_SILENCE (R19): the examination of one record's report age after an advance. -/
  | potSilence (position : Nat)
  /-- START_HOLD_EXPIRY (R31). -/
  | startHoldExpiry (position : Nat)
  /-- ESCALATION (R37). -/
  | escalation (position : Nat)
  /-- SETTLE_EXPIRY (R55). -/
  | settleExpiry (position : Nat)
  /-- PERMIT_EXPIRY (R56), of one quench slot. -/
  | permitExpiry (slot : Nat)
  /-- RAMP_FAILURE (R71), of the head of the switch queue. -/
  | rampFailure
  /-- WINDOW_EXPIRY (R75), of the head of the switch queue. -/
  | windowExpiry
  /-- FLOW_GRACE_EXPIRY (R91). -/
  | flowGraceExpiry (unit : Nat)
  /-- UNIT_SILENCE (R96). -/
  | unitSilence (unit : Nat)
  /-- UNIT_LOSS (R97). -/
  | unitLoss (unit : Nat)
  /-- TURN (R186): the walk goes on and gives the next turn. -/
  | turn
  /-- IDLE_TIME (R185): the idle time after a pass without a turn runs out. -/
  | idleTime
  /-- MISS (R186): the response window runs out. -/
  | miss
  /-- FIELD_FRAME_GAP (R187). -/
  | fieldFrameGap
  /-- FIELD_FRAME_REFUSED (R187): the characters of the frame that is judged. -/
  | fieldFrameRefused (frame : List FieldChar)
  /-- POT_REPORT (R14). -/
  | potReport (items : List ReportItem)
  /-- SWITCH_REQUEST (R66); the direction is the code sent. -/
  | switchRequest (position tag direction : Nat)
  /-- SWITCH_DONE (R74). -/
  | switchDone (position tag : Nat)
  /-- SWITCH_CANCEL (R77). -/
  | switchCancel (position tag : Nat)
  /-- QUENCH_END (R53). -/
  | quenchEnd (position tag : Nat)
  /-- UNIT_REPORT (R87). -/
  | unitReport (unit measured temperature : Nat) (flowOk breakerClosed : Bool)
  /-- PASS (R190). -/
  | pass
  /-- LM_BREAK (R193). -/
  | lmBreak
  /-- LM_FRAME_GAP (R192). -/
  | lmFrameGap
  /-- LM_FRAME_REFUSED (R192): the characters of the frame that is judged. -/
  | lmFrameRefused (frame : List PortChar)
  /-- RANGE_FRAME_NEXT (R196). -/
  | rangeFrameNext
  /-- ADMIT_POT (R8); the initial state is the code sent. -/
  | admitPot (position tag owner initial : Nat)
  /-- RETIRE_POT (R11). -/
  | retirePot (position tag : Nat)
  /-- ASSIGN_OWNER (R6). -/
  | assignOwner (position tag owner : Nat)
  /-- READ_POT (R26). -/
  | readPot (position : Nat)
  /-- READ_POT_RANGE (R27). -/
  | readPotRange (first count : Nat)
  /-- DEFINE_UNIT (R84). -/
  | defineUnit (unit node rated vMax tDerate tTrip : Nat)
  /-- REMOVE_UNIT (R99). -/
  | removeUnit (unit : Nat)
  /-- TRIP_UNIT (R93). -/
  | tripUnit (unit : Nat)
  /-- RESTORE_UNIT (R95). -/
  | restoreUnit (unit : Nat)
  /-- READ_UNIT (R100). -/
  | readUnit (unit : Nat)
  /-- ADD_NODE (R182); the kind is the code sent. -/
  | addNode (address kind : Nat)
  /-- DROP_NODE (R183). -/
  | dropNode (address : Nat)
  /-- READ_NODES (R184). -/
  | readNodes
  /-- SET_TARGET (R115). -/
  | setTarget (value : Nat)
  /-- SET_PARAM (R129). -/
  | setParam (identifier value : Nat)
  /-- READ_PARAM (R131). -/
  | readParam (identifier : Nat)
  /-- READ_LINE (R132). -/
  | readLine
  /-- RUN (R108). -/
  | run
  /-- HOLD (R109). -/
  | hold
  /-- RESUME (R110). -/
  | resume
  /-- SET_CLOCK (R149). -/
  | setClock (timeOfDay dayOfWeek : Nat)
  /-- READ_METER (R159). -/
  | readMeter
  /-- READ_PERIOD (R148). -/
  | readPeriod
  /-- CLOSE_PERIOD (R146). -/
  | closePeriod
  /-- CURTAIL (R156). -/
  | curtail (limit minutes : Nat)
  /-- CANCEL_CURTAIL (R157). -/
  | cancelCurtail
  /-- LOAD_TARIFF (R165): one section frame; `final` is its end marker 3Ch, its absence the continued marker 3Dh. -/
  | loadTariff (part : TariffPart) (final : Bool)
  /-- READ_TARIFF (R170); the selector is the code sent. -/
  | readTariff (selector : Nat)
  /-- LOCK_TARIFF (R169). -/
  | lockTariff
  /-- GET_ATTENTION (R176). -/
  | getAttention
  /-- ACK_ATTENTION (R177). -/
  | ackAttention (code count : Nat)
  /-- SET_ATTENTION_MASK (R174): the two bytes of marks as sent. -/
  | setAttentionMask (marks : Nat)
  /-- LMRX_IDLE_RETURN (R193). -/
  | lmrxIdleReturn
  /-- LM_REPLY_END (R194). -/
  | lmReplyEnd
deriving DecidableEq, Repr

end Sys2Proof
end

