-- ==== Sys2Proof/Decode.lean ====
section
/-! DEFINITION. The byte formats of the requests (R187, R192, R198, R199): byte order, the frame, its judgement to a link
status and the command it carries, and the frame that spells a command. decodeTableWord stands over the rows of
spec/opcode_table.json that give bits; no row of this table gives any. -/

namespace Sys2Proof

/-- No row of spec/opcode_table.json gives bits, so no word spells a command. -/
def decodeTableWord (_nbits _w : Nat) : Option Instr :=
  none

/-! ### Byte order (R198: most significant byte first) -/

/-- The `k` bytes of a number, most significant first (R198). -/
def be : Nat → Nat → List Byte
  | 0, _ => []
  | k + 1, n => BitVec.ofNat 8 (n / 256 ^ k) :: be k n

/-- The number that bytes spell, most significant first (R198). -/
def unbe (bs : List Byte) : Nat :=
  bs.foldl (fun a b => a * 256 + b.toNat) 0

/-- The sum of bytes modulo 256 (R187, R192). -/
def byteSum (bs : List Byte) : Byte :=
  bs.foldr (· + ·) 0

/-! ### Frames (R187, R192) -/

def startMarker : Byte := 0xC3
def finalMarker : Byte := 0x3C
def continuedMarker : Byte := 0x3D

/-- A frame around a body that its length byte counts: start marker, length, body, sum and end marker (R192, R198). -/
def frameAround (body : List Byte) (last : Byte) : List Byte :=
  let counted := be 1 body.length ++ body
  startMarker :: counted ++ [0 - byteSum counted, last]

/-- Good structure (R187 step 1, R192): C3h, a length n of 1 to 251, and n + 4 characters. -/
def structureGood : List Byte → Bool
  | a :: n :: rest => a == startMarker && (1 ≤ n.toNat && n.toNat ≤ 251) && rest.length == n.toNat + 2
  | _ => false

/-- The request code of a frame. -/
def codeOf (bs : List Byte) : Nat :=
  unbe ((bs.drop 2).take 1)

/-- The payload of a frame. -/
def payloadOf (bs : List Byte) : List Byte :=
  (bs.drop 3).dropLast.dropLast

/-- Check 2 of R187 and R192: length, code, payload and sum add up to 0 modulo 256. -/
def sumGood (bs : List Byte) : Bool :=
  byteSum (bs.drop 1).dropLast == 0

/-! ### Request payloads (R198, R199) -/

/-- The items of a POT REPORT payload, 5 bytes each. -/
def reportItems : List Byte → Option (List ReportItem)
  | [] => some []
  | a :: b :: t :: c :: d :: rest =>
    (reportItems rest).map (⟨unbe [a, b], t.toNat, unbe [c, d]⟩ :: ·)
  | _ => none

/-- The change points of a tariff section, 5 bytes each. -/
def changePoints : List Byte → Option (List ChangePoint)
  | [] => some []
  | a :: b :: c :: d :: e :: rest =>
    (changePoints rest).map (⟨unbe [a, b, c, d], e.toNat⟩ :: ·)
  | _ => none

/-- A schedule's change points after its point count: the size is 2 + 5 × points (R199). -/
def schedulePoints : List Byte → Option (List ChangePoint)
  | n :: rest => (changePoints rest).bind fun points => if points.length = n.toNat then some points else none
  | [] => none

/-- The HEADER section after its section code: 20 bytes (R199). -/
def headerPart (p : List Byte) : Option TariffHeader :=
  if p.length = 20 then
    some
      { length := unbe (p.take 2), bandCount := unbe ((p.drop 2).take 1)
        limit1 := unbe ((p.drop 3).take 4), limit2 := unbe ((p.drop 7).take 4)
        limit3 := unbe ((p.drop 11).take 4), limit4 := unbe ((p.drop 15).take 4)
        restMask := unbe (p.drop 19) }
  else none

/-- The section of a LOAD TARIFF payload; a section code outside 1 to 3 has no right size (R197). -/
def tariffPart : List Byte → Option TariffPart
  | sect :: rest =>
    if sect = 1 then (headerPart rest).map .header
    else if sect = 2 then (schedulePoints rest).map .working
    else if sect = 3 then (schedulePoints rest).map .rest
    else none
  | [] => none

/-- The field request that a code and a payload of the right size spell (R199). -/
def parseField (code : Nat) (p : List Byte) : Option Instr :=
  match code, p with
  | 0x01, p =>
    (reportItems p).bind fun items =>
      if 1 ≤ items.length ∧ items.length ≤ 8 then some (.potReport items) else none
  | 0x02, [a, b, t, d] => some (.switchRequest (unbe [a, b]) t.toNat d.toNat)
  | 0x03, [a, b, t] => some (.switchDone (unbe [a, b]) t.toNat)
  | 0x04, [a, b, t] => some (.switchCancel (unbe [a, b]) t.toNat)
  | 0x05, [a, b, t] => some (.quenchEnd (unbe [a, b]) t.toNat)
  | 0x06, [u, a, b, c, d, f] =>
    some (.unitReport u.toNat (unbe [a, b]) (unbe [c, d]) (f.getLsbD 0) (f.getLsbD 1))
  | 0x07, [] => some .pass
  | _, _ => none

/-- The line master request that a code and a payload of the right size spell (R199). -/
def parseLine (code : Nat) (p : List Byte) (final : Bool) : Option Instr :=
  match code, p with
  | 0x20, [a, b, t, o, i] => some (.admitPot (unbe [a, b]) t.toNat o.toNat i.toNat)
  | 0x21, [a, b, t] => some (.retirePot (unbe [a, b]) t.toNat)
  | 0x22, [a, b, t, o] => some (.assignOwner (unbe [a, b]) t.toNat o.toNat)
  | 0x23, [a, b] => some (.readPot (unbe [a, b]))
  | 0x24, [a, b, c, d] => some (.readPotRange (unbe [a, b]) (unbe [c, d]))
  | 0x30, [u, n, r1, r0, v3, v2, v1, v0, d1, d0, t1, t0] =>
    some (.defineUnit u.toNat n.toNat (unbe [r1, r0]) (unbe [v3, v2, v1, v0]) (unbe [d1, d0]) (unbe [t1, t0]))
  | 0x31, [u] => some (.removeUnit u.toNat)
  | 0x32, [u] => some (.tripUnit u.toNat)
  | 0x33, [u] => some (.restoreUnit u.toNat)
  | 0x34, [u] => some (.readUnit u.toNat)
  | 0x38, [a, k] => some (.addNode a.toNat k.toNat)
  | 0x39, [a] => some (.dropNode a.toNat)
  | 0x3A, [] => some .readNodes
  | 0x40, [a, b] => some (.setTarget (unbe [a, b]))
  | 0x41, [i, a, b, c, d] => some (.setParam i.toNat (unbe [a, b, c, d]))
  | 0x42, [i] => some (.readParam i.toNat)
  | 0x43, [] => some .readLine
  | 0x44, [] => some .run
  | 0x45, [] => some .hold
  | 0x46, [] => some .resume
  | 0x50, [a, b, c, d, w] => some (.setClock (unbe [a, b, c, d]) w.toNat)
  | 0x51, [] => some .readMeter
  | 0x52, [] => some .readPeriod
  | 0x53, [] => some .closePeriod
  | 0x54, [a, b, c, d, m1, m0] => some (.curtail (unbe [a, b, c, d]) (unbe [m1, m0]))
  | 0x55, [] => some .cancelCurtail
  | 0x56, p => (tariffPart p).map (.loadTariff · final)
  | 0x57, [c] => some (.readTariff c.toNat)
  | 0x58, [] => some .lockTariff
  | 0x60, [] => some .getAttention
  | 0x61, [c, n] => some (.ackAttention c.toNat n.toNat)
  | 0x62, [a, b] => some (.setAttentionMask (unbe [a, b]))
  | _, _ => none

/-- The codes a node of each kind may send (R189, R199). -/
def fieldCode : NodeKind → Nat → Bool
  | .potNode, code => [0x01, 0x02, 0x03, 0x04, 0x05, 0x07].contains code
  | .unitNode, code => [0x06, 0x07].contains code

/-- The codes of the line master requests (R199). -/
def lineCode (code : Nat) : Bool :=
  [0x20, 0x21, 0x22, 0x23, 0x24, 0x30, 0x31, 0x32, 0x33, 0x34, 0x38, 0x39, 0x3A, 0x40, 0x41, 0x42, 0x43,
   0x44, 0x45, 0x46, 0x50, 0x51, 0x52, 0x53, 0x54, 0x55, 0x56, 0x57, 0x58, 0x60, 0x61, 0x62].contains code

/-! ### The judgement of a frame -/

/-- The link status of a field frame from a node of a kind, and the request where it is OK (R187). DESIGN CHOICE: a lone
start marker is judged by check 1 and gives FORM (notes/assumptions/29). -/
def judgeField (kind : NodeKind) (frame : List FieldChar) : LinkStatus × Option Instr :=
  let bs := frame.map FieldChar.data
  if !(frame.all (fun c => !c.mark) && structureGood bs && bs.getLast? == some finalMarker) then (.form, none)
  else if !sumGood bs then (.sum, none)
  else if !fieldCode kind (codeOf bs) then (.unknown, none)
  else
    match parseField (codeOf bs) (payloadOf bs) with
    | none => (.form, none)
    | some i => (.ok, some i)

/-- The link status of a line master frame, and the request where it is OK (R192). DESIGN CHOICE: a lone start marker is
judged by check 1 and gives FORM (notes/assumptions/29). -/
def judgePort (frame : List PortChar) : LinkStatus × Option Instr :=
  let bs := frame.map PortChar.data
  let final := bs.getLast? == some finalMarker
  let continued := bs.getLast? == some continuedMarker
  if !(frame.all (fun c => !c.framingError) && structureGood bs && (final || continued)) then (.form, none)
  else if !sumGood bs then (.sum, none)
  else if !lineCode (codeOf bs) then (.unknown, none)
  else if continued && codeOf bs != 0x56 then (.form, none)
  else
    match parseLine (codeOf bs) (payloadOf bs) final with
    | none => (.form, none)
    | some i => (.ok, some i)

/-! ### The frame that spells a request -/

/-- The bytes of a schedule section after its section code. -/
def scheduleBytes (points : List ChangePoint) : List Byte :=
  be 1 points.length ++ points.flatMap fun c => be 4 c.second ++ be 1 c.band

/-- The payload of a LOAD TARIFF frame. -/
def partBytes : TariffPart → List Byte
  | .header h =>
    be 1 1 ++ be 2 h.length ++ be 1 h.bandCount ++ be 4 h.limit1 ++ be 4 h.limit2 ++ be 4 h.limit3 ++ be 4 h.limit4
      ++ be 1 h.restMask
  | .working points => be 1 2 ++ scheduleBytes points
  | .rest points => be 1 3 ++ scheduleBytes points

/-- A flag at a bit of a byte. -/
def flagBit (b : Bool) (bit : Nat) : Nat :=
  if b then 2 ^ bit else 0

/-- The code and payload of a field request (R198, R199); none for a command that is no field request. -/
def fieldRequest : Instr → Option (Nat × List Byte)
  | .potReport items => some (0x01, items.flatMap fun i => be 2 i.position ++ be 1 i.tag ++ be 2 i.voltage)
  | .switchRequest p t d => some (0x02, be 2 p ++ be 1 t ++ be 1 d)
  | .switchDone p t => some (0x03, be 2 p ++ be 1 t)
  | .switchCancel p t => some (0x04, be 2 p ++ be 1 t)
  | .quenchEnd p t => some (0x05, be 2 p ++ be 1 t)
  | .unitReport u m t f b => some (0x06, be 1 u ++ be 2 m ++ be 2 t ++ be 1 (flagBit f 0 + flagBit b 1))
  | .pass => some (0x07, [])
  | _ => none

/-- The code and payload of a line master request (R198, R199); none for a command that is no such request. -/
def lineRequest : Instr → Option (Nat × List Byte)
  | .admitPot p t o i => some (0x20, be 2 p ++ be 1 t ++ be 1 o ++ be 1 i)
  | .retirePot p t => some (0x21, be 2 p ++ be 1 t)
  | .assignOwner p t o => some (0x22, be 2 p ++ be 1 t ++ be 1 o)
  | .readPot p => some (0x23, be 2 p)
  | .readPotRange p n => some (0x24, be 2 p ++ be 2 n)
  | .defineUnit u n r v d t => some (0x30, be 1 u ++ be 1 n ++ be 2 r ++ be 4 v ++ be 2 d ++ be 2 t)
  | .removeUnit u => some (0x31, be 1 u)
  | .tripUnit u => some (0x32, be 1 u)
  | .restoreUnit u => some (0x33, be 1 u)
  | .readUnit u => some (0x34, be 1 u)
  | .addNode a k => some (0x38, be 1 a ++ be 1 k)
  | .dropNode a => some (0x39, be 1 a)
  | .readNodes => some (0x3A, [])
  | .setTarget v => some (0x40, be 2 v)
  | .setParam i v => some (0x41, be 1 i ++ be 4 v)
  | .readParam i => some (0x42, be 1 i)
  | .readLine => some (0x43, [])
  | .run => some (0x44, [])
  | .hold => some (0x45, [])
  | .resume => some (0x46, [])
  | .setClock t w => some (0x50, be 4 t ++ be 1 w)
  | .readMeter => some (0x51, [])
  | .readPeriod => some (0x52, [])
  | .closePeriod => some (0x53, [])
  | .curtail l m => some (0x54, be 4 l ++ be 2 m)
  | .cancelCurtail => some (0x55, [])
  | .loadTariff part _ => some (0x56, partBytes part)
  | .readTariff c => some (0x57, be 1 c)
  | .lockTariff => some (0x58, [])
  | .getAttention => some (0x60, [])
  | .ackAttention c n => some (0x61, be 1 c ++ be 1 n)
  | .setAttentionMask m => some (0x62, be 2 m)
  | _ => none

/-- The end marker of a request frame: 3Dh on a continued LOAD TARIFF frame, 3Ch on every other (R187, R192). -/
def endMarkerOf : Instr → Byte
  | .loadTariff _ false => continuedMarker
  | _ => finalMarker

/-- The characters of the frame a node sends for a field request. -/
def encodeField (i : Instr) : Option (List FieldChar) :=
  (fieldRequest i).map fun (code, payload) =>
    (frameAround (be 1 code ++ payload) finalMarker).map (⟨false, ·⟩)

/-- The characters of the frame the line master sends for a request. -/
def encodeLine (i : Instr) : Option (List PortChar) :=
  (lineRequest i).map fun (code, payload) =>
    (frameAround (be 1 code ++ payload) (endMarkerOf i)).map (⟨false, ·⟩)

end Sys2Proof
end

