-- ==== Sys2Proof/Machine/State.lean ====
section
/-! DEFINITION. The state of the LC384: one structure per block of 00_scope 2.1, each field with the rule that names it,
the value of every field after reset, and the reasons a step can stop. Plain data throughout. -/

namespace Sys2Proof.Machine

/-! ### The reasons a step can stop -/

/-- The faults. The spec gives every command of the block an effect or a refusal that the block answers itself (a request
status, a link status), and none of them stops the block, so there is no fault to raise: the type is empty. -/
inductive Fault where
deriving DecidableEq, Repr

/-- The refusals. -/
inductive Refusal where
  /-- Raised only by an arm of exec whose command has no meaning yet; no arm of this model raises it. Safe: a run that
  meets it stops, and nothing is claimed of what follows. -/
  | notModelled (mnemonic : String)
deriving DecidableEq, Repr

/-! ### Replies -/

/-- The request status of a reply (R195). -/
inductive ReqStatus where
  | none | done | param | noRecord | owner | stale | state | busy | full | late | notReady | protect
deriving DecidableEq, Repr

/-- One reply frame: its link status, its request status, its payload, and whether it ends with the continued marker. -/
structure Reply where
  link : LinkStatus
  status : ReqStatus
  payload : List Byte
  continued : Bool
deriving DecidableEq, Repr

/-! ### Pot Register (R1 to R27), with the fields other blocks own in it (R2) -/

/-- Circuit state (R1, R4). -/
inductive Circuit where
  | vacant | outOfCircuit | inCircuit
deriving DecidableEq, Repr

/-- AE state (R28). -/
inductive AeState where
  | none | suspect | waiting | quenching | settling
deriving DecidableEq, Repr

/-- AE class (R28). -/
inductive AeClass where
  | normal | escalated
deriving DecidableEq, Repr

/-- Direction of a switch record: IN is a cut-in, OUT a cut-out (R63). -/
inductive Direction where
  | cutIn | cutOut
deriving DecidableEq, Repr

/-- Phase of a switch record (R63). -/
inductive SwitchPhase where
  | queued | ramping | opened
deriving DecidableEq, Repr

/-- Last switch result (R78). -/
inductive SwitchResult where
  | none | completed | cancelled | expired | rampFailed | aeCancelled
deriving DecidableEq, Repr

/-- A switch record (R63). -/
structure SwitchRecord where
  direction : Direction
  phase : SwitchPhase
  stamp : Nat
deriving DecidableEq, Repr

/-- A pot record (R1, R2). The position is the record's place in the table. `confirmStamp` is the model's own: the
line-seconds value of the confirmation, which R33 and R37 need to leave a pot confirmed in this line-second to the next
advance. -/
structure PotRecord where
  circuit : Circuit
  tag : Nat
  owner : Option Nat
  voltage : Nat
  reportStamp : Nat
  silent : Bool
  resistance : Nat
  ae : AeState
  aeClass : AeClass
  startStamp : Option Nat
  slot : Option Nat
  settleStamp : Option Nat
  startHoldEnd : Option Nat
  aeCount : Nat
  aeSeconds : Nat
  overruns : Nat
  switch : Option SwitchRecord
  lastSwitch : SwitchResult
  confirmStamp : Option Nat
deriving DecidableEq, Repr

/-- A pot record after reset (R3). -/
def PotRecord.empty : PotRecord where
  circuit := .vacant
  tag := 0
  owner := Option.none
  voltage := 0
  reportStamp := 0
  silent := false
  resistance := 0
  ae := .none
  aeClass := .normal
  startStamp := Option.none
  slot := Option.none
  settleStamp := Option.none
  startHoldEnd := Option.none
  aeCount := 0
  aeSeconds := 0
  overruns := 0
  switch := Option.none
  lastSwitch := .none
  confirmStamp := Option.none

/-- The Pot Register: the table of 384 records, the four running line sums (R23) and the owner counts (R5). -/
structure PotRegister where
  table : Vector PotRecord 384
  nIn : Nat
  nOut : Nat
  sumR : Nat
  sumV : Nat
  ownerCounts : Vector Nat 62
deriving DecidableEq, Repr

/-! ### Quench Arbiter (R44, R46) and Switching Controller (R64) -/

/-- What a HELD quench slot carries (R46). -/
structure HeldSlot where
  position : Nat
  grantStamp : Nat
deriving DecidableEq, Repr

/-- The Quench Arbiter: the four slots, FREE where none, and the quench queue of positions from its head. -/
structure QuenchArbiter where
  slots : Vector (Option HeldSlot) 4
  queue : List Nat
deriving DecidableEq, Repr

/-- The Switching Controller: the switch queue of positions from its head. -/
structure SwitchController where
  queue : List Nat
deriving DecidableEq, Repr

/-! ### Unit Table (R82) -/

/-- Unit state (R85). -/
inductive UnitState where
  | absent | idle | serving | tripping | locked | lost
deriving DecidableEq, Repr

/-- Trip cause (R82). -/
inductive TripCause where
  | none | temperature | flow | lineMaster
deriving DecidableEq, Repr

/-- A unit record (R82). The unit number is the record's place in the table. -/
structure UnitRecord where
  state : UnitState
  node : Nat
  rated : Nat
  vMax : Nat
  tDerate : Nat
  tTrip : Nat
  measured : Nat
  temperature : Nat
  flowOk : Bool
  breakerClosed : Bool
  reportStamp : Nat
  flowLossStamp : Option Nat
  silent : Bool
  capacity : Nat
  derated : Bool
  demand : Nat
  frozen : Bool
  tripCause : TripCause
deriving DecidableEq, Repr

/-- A unit record after reset and after REMOVE UNIT (R83). -/
def UnitRecord.empty : UnitRecord where
  state := .absent
  node := 0
  rated := 0
  vMax := 0
  tDerate := 0
  tTrip := 0
  measured := 0
  temperature := 0
  flowOk := true
  breakerClosed := false
  reportStamp := 0
  flowLossStamp := Option.none
  silent := false
  capacity := 0
  derated := false
  demand := 0
  frozen := false
  tripCause := .none

/-! ### Current Dispatcher (R107, R128) -/

/-- Line mode (R107). -/
inductive LineMode where
  | adopt | run | hold
deriving DecidableEq, Repr

/-- Governing limit (R107). -/
inductive Governing where
  | adopt | hold | ramp | frozen | switching | capacity | voltage | floor | demand | request
deriving DecidableEq, Repr

/-- The line parameter set, in the order of the table of R128. -/
structure Params where
  e0 : Nat
  rNom : Nat
  rBypass : Nat
  rBus : Nat
  vBaseReserve : Nat
  qRes : Nat
  iFloor : Nat
  iCeiling : Nat
  rampStep : Nat
  iRmin : Nat
  vAe : Nat
  vAeEnd : Nat
  tConfirm : Nat
  tEsc : Nat
  tQuench : Nat
  tSettle : Nat
  tStartHold : Nat
  tPotSilent : Nat
  tUnitSilent : Nat
  tUnitLost : Nat
  tFlowGrace : Nat
  tRampFail : Nat
  tWindow : Nat
  shedLimit : Nat
  fieldSpeed : Nat
  portSpeed : Nat
deriving DecidableEq, Repr

/-- The reset defaults of R128. -/
def Params.defaults : Params where
  e0 := 1650
  rNom := 6500
  rBypass := 20
  rBus := 1500
  vBaseReserve := 30000
  qRes := 20000
  iFloor := 24000
  iCeiling := 30000
  rampStep := 10
  iRmin := 5000
  vAe := 8000
  vAeEnd := 6000
  tConfirm := 2
  tEsc := 180
  tQuench := 120
  tSettle := 30
  tStartHold := 240
  tPotSilent := 15
  tUnitSilent := 5
  tUnitLost := 20
  tFlowGrace := 30
  tRampFail := 300
  tWindow := 600
  shedLimit := 400000
  fieldSpeed := 38400
  portSpeed := 115200

/-- The values of the limits at the latest dispatch cycle or event evaluation (R107). -/
structure Limits where
  iCap : Nat
  iVlim : Nat
  iDlim : Nat
  floored : Nat
  iSw : Nat
  iLim : Nat
deriving DecidableEq, Repr

/-- The Current Dispatcher. The unit demands it sets stand in the unit records (R126). -/
structure CurrentDispatcher where
  mode : LineMode
  target : Nat
  setpoint : Nat
  governing : Governing
  limits : Limits
  params : Params
deriving DecidableEq, Repr

/-! ### Demand Meter (R133 to R160) -/

/-- The interval in progress (R139). -/
structure Interval where
  start : Nat
  planned : Nat
  elapsed : Nat
  energy : Nat
  band : Nat
  limit : Nat
deriving DecidableEq, Repr

/-- The previous-interval record (R143). -/
structure PreviousInterval where
  demand : Nat
  duration : Nat
  band : Nat
  counted : Bool
deriving DecidableEq, Repr

/-- The energy of one band in a period: whole kWh and the residue in kWs (R141). -/
structure BandEnergy where
  kwh : Nat
  residue : Nat
deriving DecidableEq, Repr

/-- The figures of a period (R141, R144): bands 1 to 4, the maximum demand with the end of its interval, and the counts. -/
structure PeriodFigures where
  bands : Vector BandEnergy 4
  maximum : Nat
  maximumDay : Nat
  maximumTime : Nat
  counted : Nat
  uncounted : Nat
deriving DecidableEq, Repr

/-- The figures of an empty period (R144, R147). -/
def PeriodFigures.empty : PeriodFigures where
  bands := Vector.replicate 4 ⟨0, 0⟩
  maximum := 0
  maximumDay := 0
  maximumTime := 0
  counted := 0
  uncounted := 0

/-- The closed-period record (R147). -/
structure ClosedPeriod where
  figures : PeriodFigures
  closeDay : Nat
  closeTime : Nat
deriving DecidableEq, Repr

/-- Governor state (R154). -/
inductive GovernorState where
  | off | limiting
deriving DecidableEq, Repr

/-- The governor: its state and the latest projection (R154). -/
structure Governor where
  state : GovernorState
  dProj : Nat
  dLim : Nat
  iDlim : Nat
deriving DecidableEq, Repr

/-- An active curtailment (R156). -/
structure Curtailment where
  limit : Nat
  endStamp : Nat
deriving DecidableEq, Repr

/-- The Demand Meter. `divider` is the timebase divider of R133 at the latest dispatch cycle, in half seconds of 9,216,000
REFCLK periods: 0 or 1. Between two expiries nothing reads it. `atAdvance` is the model's own: the line parameters as they stood at the latest advance of the line-seconds
value, which the examinations of that advance apply. -/
structure DemandMeter where
  divider : Nat
  lineSeconds : Nat
  timeOfDay : Nat
  dayOfWeek : Nat
  dayCount : Nat
  interval : Interval
  previous : PreviousInterval
  period : PeriodFigures
  pendingClose : Bool
  closed : ClosedPeriod
  vLine : Nat
  power : Nat
  governor : Governor
  curtailment : Option Curtailment
  shed : Bool
  atAdvance : Params
deriving DecidableEq, Repr

/-! ### Tariff Store (R161, R162) -/

/-- A tariff table (R162): the limits of bands 1 to the band count, and the rest-day mask with bit d for day d. -/
structure TariffTable where
  length : Nat
  bandCount : Nat
  limits : List Nat
  restMask : Nat
  working : List ChangePoint
  rest : List ChangePoint
deriving DecidableEq, Repr

/-- The reset table (R164). -/
def TariffTable.atReset : TariffTable where
  length := 900
  bandCount := 1
  limits := [16777215]
  restMask := 0
  working := [⟨0, 1⟩]
  rest := [⟨0, 1⟩]

/-- A load in progress (R161): the sections taken so far, which fix the section expected next. -/
inductive TariffLoad where
  | expectWorking (header : TariffHeader)
  | expectRest (header : TariffHeader) (working : List ChangePoint)
deriving DecidableEq, Repr

/-- The first bad item that the validation of a load names: its section, its item and its index (R166, R198). -/
structure BadItem where
  part : Nat
  item : Nat
  index : Nat
deriving DecidableEq, Repr

/-- The Tariff Store (R161). -/
structure TariffStore where
  active : TariffTable
  staged : Option TariffTable
  locked : Bool
  load : Option TariffLoad
deriving DecidableEq, Repr

/-! ### Attention Unit (R172) -/

/-- The attention sources in their priority (chapter 9.1). -/
inductive Source where
  | unitTrip | voltageLimit | aeEscalated | quenchOverrun | switchExpired | demandLimiting
  | potSilent | nodeAbsent | intervalClosed | aeConfirmed | unitDerated | switchCompleted
deriving DecidableEq, Repr

/-- What the Attention Unit holds for one source (R172). -/
structure SourceRecord where
  pending : Bool
  count : Nat
  detail : Nat
deriving DecidableEq, Repr

/-- A source that is not pending (R172). -/
def SourceRecord.clear : SourceRecord :=
  ⟨false, 0, 0⟩

/-- The Attention Unit: the sources of codes 1 to 12, the mask with bit n − 1 for code n, and the level of ATTN. -/
structure AttentionUnit where
  sources : Vector SourceRecord 12
  mask : BitVec 12
  attn : Bool
deriving DecidableEq, Repr

/-! ### Field Link Controller (R181, R186) -/

/-- Presence of a node (R181). -/
inductive Presence where
  | active | absent
deriving DecidableEq, Repr

/-- A poll ring entry (R181). -/
structure RingEntry where
  address : Nat
  kind : NodeKind
  presence : Presence
  misses : Nat
  passCounter : Nat
deriving DecidableEq, Repr

/-- How far a turn has come, at the grain of commands: the response window runs, or the reply is being sent. -/
inductive TurnPhase where
  | await | reply
deriving DecidableEq, Repr

/-- The turn in progress (R186): the node that holds it, its kind, and whether its entry still stands in the ring
(DROP NODE can remove it, R183). -/
structure Turn where
  address : Nat
  kind : NodeKind
  entryStands : Bool
  phase : TurnPhase
deriving DecidableEq, Repr

/-- The Field Link Controller. `walk` is the index of the walk position in the ring. `passGave` says whether the pass in
progress has given a turn, `idle` whether the idle time after a pass without one runs (R185). `speed` is the speed of
the exchange in progress (R130, R180). `reply` is the reply frame of the turn in progress. -/
structure FieldLink where
  ring : List RingEntry
  walk : Option Nat
  turn : Option Turn
  passGave : Bool
  idle : Bool
  speed : Nat
  reply : Option Reply
deriving DecidableEq, Repr

/-! ### Line Master Port (R191 to R196) -/

/-- The Line Master Port: the reply frame being sent, the captured frames due after it (R196), whether the receiver waits
for the idle level after a break (R193), and the speed in force (R130). -/
structure LinePort where
  reply : Option Reply
  due : List Reply
  waitIdle : Bool
  speed : Nat
deriving DecidableEq, Repr

/-! ### The whole block -/

/-- The state of the LC384: its blocks, and the queue of commands that wait, first in first out. -/
structure State where
  pots : PotRegister
  quench : QuenchArbiter
  switching : SwitchController
  units : Vector UnitRecord 8
  current : CurrentDispatcher
  meter : DemandMeter
  tariff : TariffStore
  attention : AttentionUnit
  field : FieldLink
  port : LinePort
  pending : List Instr
deriving DecidableEq, Repr

/-- The block after reset, by RESETN or at power-on (R3, R23, R44, R46, R64, R83, R107, R128, R139, R143, R144, R147,
R154, R160, R161, R164, R172, R181, R191), with no command waiting. -/
def State.reset : State where
  pots :=
    { table := Vector.replicate 384 PotRecord.empty, nIn := 0, nOut := 0, sumR := 0, sumV := 0
      ownerCounts := Vector.replicate 62 0 }
  quench := { slots := Vector.replicate 4 Option.none, queue := [] }
  switching := { queue := [] }
  units := Vector.replicate 8 UnitRecord.empty
  current :=
    { mode := .adopt, target := 0, setpoint := 0, governing := .adopt, limits := ⟨0, 0, 0, 0, 0, 0⟩
      params := Params.defaults }
  meter :=
    { divider := 0, lineSeconds := 0, timeOfDay := 0, dayOfWeek := 0, dayCount := 0
      interval := { start := 0, planned := 900, elapsed := 0, energy := 0, band := 1, limit := 16777215 }
      previous := { demand := 0, duration := 0, band := 0, counted := false }
      period := PeriodFigures.empty, pendingClose := false
      closed := { figures := PeriodFigures.empty, closeDay := 0, closeTime := 0 }
      vLine := 0, power := 0, governor := { state := .off, dProj := 0, dLim := 0, iDlim := 65535 }
      curtailment := Option.none, shed := false, atAdvance := Params.defaults }
  tariff := { active := TariffTable.atReset, staged := Option.none, locked := false, load := Option.none }
  attention := { sources := Vector.replicate 12 SourceRecord.clear, mask := 0xFFF, attn := false }
  field :=
    { ring := [], walk := Option.none, turn := Option.none, passGave := false, idle := false, speed := 38400
      reply := Option.none }
  port := { reply := Option.none, due := [], waitIdle := false, speed := 115200 }
  pending := []

end Sys2Proof.Machine
end

