-- ==== Sys2Proof/Machine/Ops.lean ====
section
/-! DEFINITION. The operations every block uses: tables numbered from 1, stamps and ages, the one write of a pot record
that keeps the line sums and the owner counts in step, and the line quantities of the Unit Table. -/

namespace Sys2Proof.Machine

/-! ### Tables numbered from 1 -/

/-- Entry `k` of a table numbered from 1; `d` for a number outside the table. -/
def tget {α : Type} {n : Nat} (d : α) (t : Vector α n) : Nat → α
  | 0 => d
  | k + 1 => (t[k]?).getD d

/-- The table with entry `k` replaced; unchanged for a number outside the table. -/
def tput {α : Type} {n : Nat} (t : Vector α n) : Nat → α → Vector α n
  | 0, _ => t
  | k + 1, a => t.setIfInBounds k a

/-! ### Stamps, ages and saturation (00_scope 5.4, R134) -/

/-- The age of a stamp: the difference modulo 4,294,967,296 (R134). -/
def age (now stamp : Nat) : Nat :=
  (now + secondsModulus - stamp) % secondsModulus

/-- The line-seconds value a number of seconds after another (R31, R156). DEDUCED: taken modulo 4,294,967,296, as the
counter runs (notes/assumptions/2). -/
def later (now seconds : Nat) : Nat :=
  (now + seconds) % secondsModulus

/-- A counter named as saturating stops at its maximum (00_scope 5.1). -/
def saturate (top n : Nat) : Nat :=
  min n top

/-- The present line-seconds value. -/
def State.now (s : State) : Nat :=
  s.meter.lineSeconds

/-- The line parameters in force (R128). -/
def State.params (s : State) : Params :=
  s.current.params

/-! ### Pot records, line sums and owner counts (R1, R2, R5, R23, R24) -/

/-- The number is a position of the line (R1). -/
def isPosition (p : Nat) : Bool :=
  1 ≤ p && p ≤ potCount

/-- The record of a position. -/
def State.pot (s : State) (p : Nat) : PotRecord :=
  tget PotRecord.empty s.pots.table p

/-- The longest start hold, in seconds: the greatest T_start_hold of 1,440 minutes (R128). -/
def longestHold : Nat :=
  1440 * 60

/-- The start hold of a record runs (R31): its stored end lies ahead of the present line-seconds value. From the advance
to the stored end on it has run out, whether or not the field has been removed yet. DEDUCED: an end is ahead where the
seconds to it, taken modulo 4,294,967,296, are 1 to the longest hold (notes/assumptions/9). -/
def PotRecord.holdRuns (r : PotRecord) (now : Nat) : Bool :=
  match r.startHoldEnd with
  | some e => 1 ≤ age e now && age e now ≤ longestHold
  | Option.none => false

/-- A record's contribution to N_in (R4, R24). -/
def PotRecord.countIn (r : PotRecord) : Nat :=
  if r.circuit = .inCircuit then 1 else 0

/-- A record's contribution to N_out (R4, R24). -/
def PotRecord.countOut (r : PotRecord) : Nat :=
  if r.circuit = .outOfCircuit then 1 else 0

/-- A record's contribution to ΣR_in (R4, R24). -/
def PotRecord.shareR (r : PotRecord) : Nat :=
  if r.circuit = .inCircuit then r.resistance else 0

/-- A record's contribution to ΣV_in (R4, R24). -/
def PotRecord.shareV (r : PotRecord) : Nat :=
  if r.circuit = .inCircuit then r.voltage else 0

/-- The address whose owner count a record adds to: its owner, unless it is VACANT (R5). -/
def PotRecord.countedOwner (r : PotRecord) : Option Nat :=
  if r.circuit = .vacant then Option.none else r.owner

/-- The owner counts after one record leaves an address and joins another (R5). -/
def moveOwner (counts : Vector Nat 62) (old new : Option Nat) : Vector Nat 62 :=
  if old = new then counts
  else
    let lowered :=
      match old with
      | Option.none => counts
      | some a => tput counts a (tget 0 counts a - 1)
    match new with
    | Option.none => lowered
    | some a => tput lowered a (tget 0 lowered a + 1)

/-- The Pot Register with one record written. The line sums change by the record's contribution before and after (R24),
and the owner counts by its owner before and after (R5): the Register keeps them in step with every change any block
makes to the record (R2). -/
def PotRegister.put (g : PotRegister) (p : Nat) (r : PotRecord) : PotRegister :=
  if isPosition p then
    let old := tget PotRecord.empty g.table p
    { table := tput g.table p r
      nIn := g.nIn + r.countIn - old.countIn
      nOut := g.nOut + r.countOut - old.countOut
      sumR := g.sumR + r.shareR - old.shareR
      sumV := g.sumV + r.shareV - old.shareV
      ownerCounts := moveOwner g.ownerCounts old.countedOwner r.countedOwner }
  else g

/-- One pot record written. -/
def State.putPot (s : State) (p : Nat) (r : PotRecord) : State :=
  { s with pots := s.pots.put p r }

/-- The owner count of an address (R5). -/
def State.ownerCount (s : State) (a : Nat) : Nat :=
  tget 0 s.pots.ownerCounts a

/-! ### Quench slots (R46) -/

/-- What a quench slot carries; none where it is FREE. -/
def State.slot (s : State) (k : Nat) : Option HeldSlot :=
  tget Option.none s.quench.slots k

/-- One quench slot written. -/
def State.putSlot (s : State) (k : Nat) (v : Option HeldSlot) : State :=
  { s with quench := { s.quench with slots := tput s.quench.slots k v } }

/-- h, the number of HELD slots (R46). -/
def State.heldSlots (s : State) : Nat :=
  s.quench.slots.toList.countP Option.isSome

/-! ### Unit records and the line quantities (R85, R101 to R103, R122) -/

/-- The number is a unit number (R82). -/
def isUnit (u : Nat) : Bool :=
  1 ≤ u && u ≤ unitCount

/-- The record of a unit. -/
def State.unit (s : State) (u : Nat) : UnitRecord :=
  tget UnitRecord.empty s.units u

/-- One unit record written. -/
def State.putUnit (s : State) (u : Nat) (r : UnitRecord) : State :=
  { s with units := tput s.units u r }

/-- SERVING, silent or not. -/
def UnitRecord.serving (r : UnitRecord) : Bool :=
  r.state == .serving

/-- Eligible: SERVING and not silent (R85). -/
def UnitRecord.eligible (r : UnitRecord) : Bool :=
  r.serving && !r.silent

/-- A silent SERVING unit, whose demand is frozen (R96). -/
def UnitRecord.heldFrozen (r : UnitRecord) : Bool :=
  r.serving && r.silent

/-- What a unit adds to I_meas: its measured current while SERVING or TRIPPING (R101). -/
def UnitRecord.measuredShare (r : UnitRecord) : Nat :=
  if r.state = .serving ∨ r.state = .tripping then r.measured else 0

/-- What a unit adds to the capacities of I_cap: its capacity while eligible (R103). -/
def UnitRecord.capacityShare (r : UnitRecord) : Nat :=
  if r.eligible then r.capacity else 0

/-- What a unit adds to the frozen demands: its demand while SERVING and silent (R103, R122). -/
def UnitRecord.frozenShare (r : UnitRecord) : Nat :=
  if r.heldFrozen then r.demand else 0

/-- I_meas (R101). -/
def State.iMeas (s : State) : Nat :=
  min topCurrent (s.units.toList.map UnitRecord.measuredShare).sum

/-- V_cap: the least V_max over the SERVING units, 0 where there is none (R102). -/
def State.vCap (s : State) : Nat :=
  (((s.units.toList.filter UnitRecord.serving).map UnitRecord.vMax).min?).getD 0

/-- C, the sum of the capacities of the eligible units (R125). -/
def State.capacitySum (s : State) : Nat :=
  (s.units.toList.map UnitRecord.capacityShare).sum

/-- F, the sum of the frozen demands of the silent SERVING units (R122, R125 step 1). -/
def State.frozenSum (s : State) : Nat :=
  (s.units.toList.map UnitRecord.frozenShare).sum

/-- I_cap (R103). -/
def State.iCap (s : State) : Nat :=
  min topCurrent (s.capacitySum + s.frozenSum)

end Sys2Proof.Machine
end

