-- ==== Sys2Proof/Machine/Flags.lean ====
section
/-! DEFINITION. The attention sources and the ATTN line (chapter 9): raising a source, clearing or reducing it, and the
level of ATTN after each. -/

namespace Sys2Proof.Machine

/-- The code of a source, 1 the highest priority (chapter 9.1). -/
def Source.code : Source → Nat
  | .unitTrip => 1
  | .voltageLimit => 2
  | .aeEscalated => 3
  | .quenchOverrun => 4
  | .switchExpired => 5
  | .demandLimiting => 6
  | .potSilent => 7
  | .nodeAbsent => 8
  | .intervalClosed => 9
  | .aeConfirmed => 10
  | .unitDerated => 11
  | .switchCompleted => 12

/-- What the Attention Unit holds for a code. -/
def AttentionUnit.source (a : AttentionUnit) (code : Nat) : SourceRecord :=
  tget SourceRecord.clear a.sources code

/-- The mark of the mask for a code 1 to 12 (R172, R198). -/
def AttentionUnit.enabled (a : AttentionUnit) (code : Nat) : Bool :=
  1 ≤ code && a.mask.getLsbD (code - 1)

/-- The codes 1 to 12. -/
def sourceCodes : List Nat :=
  [1, 2, 3, 4, 5, 6, 7, 8, 9, 10, 11, 12]

/-- A source that takes part in ATTN and in GET ATTENTION: pending and enabled (R175, R176). -/
def AttentionUnit.waiting (a : AttentionUnit) (code : Nat) : Bool :=
  (a.source code).pending && a.enabled code

/-- ATTN settled again: asserted where at least one enabled source is pending (R175). -/
def AttentionUnit.settle (a : AttentionUnit) : AttentionUnit :=
  { a with attn := sourceCodes.any a.waiting }

/-- One source written and ATTN settled. -/
def AttentionUnit.put (a : AttentionUnit) (code : Nat) (r : SourceRecord) : AttentionUnit :=
  AttentionUnit.settle { a with sources := tput a.sources code r }

/-- A source after one raising (R173). -/
def SourceRecord.raised (r : SourceRecord) (detail : Nat) : SourceRecord :=
  if r.pending then { r with count := saturate 255 (r.count + 1) } else ⟨true, 1, detail⟩

/-- A source after an acknowledgement that matches its count: cleared (R177), or reduced where the count is 255 (R178). -/
def SourceRecord.acknowledged (r : SourceRecord) : SourceRecord :=
  if r.count = 255 then ⟨true, 1, 0⟩ else SourceRecord.clear

/-- A source raised with a detail (R173). -/
def State.raise (s : State) (source : Source) (detail : Nat) : State :=
  { s with attention := s.attention.put source.code ((s.attention.source source.code).raised detail) }

end Sys2Proof.Machine
end

