-- ==== Sys2Proof/Machine/Operands.lean ====
section
/-! DEFINITION. The operands of requests: the identity checks of R12, the codes of the enumerated fields (R198), and the
byte layouts they enter. -/

namespace Sys2Proof.Machine

/-- The identity checks of R12 for a request naming a pot: `node` is the address a field request is attributed to, none
for a line master request. DONE where every check passes. -/
def State.identity (s : State) (node : Option Nat) (position tag : Nat) : ReqStatus :=
  if !isPosition position then .noRecord
  else if (s.pot position).circuit = .vacant then .noRecord
  else if node.isSome ∧ (s.pot position).owner ≠ node then .owner
  else if (s.pot position).tag ≠ tag then .stale
  else .done

/-! ### Codes a request carries (R198) -/

/-- The direction a code names: IN 1, OUT 2. -/
def directionOf : Nat → Option Direction
  | 1 => some .cutIn
  | 2 => some .cutOut
  | _ => Option.none

/-- The initial state a code of ADMIT POT names: IN 1, OUT 2. -/
def initialOf : Nat → Option Circuit
  | 1 => some .inCircuit
  | 2 => some .outOfCircuit
  | _ => Option.none

/-- The node kind a code names: POT_NODE 1, UNIT_NODE 2. -/
def kindOf : Nat → Option NodeKind
  | 1 => some .potNode
  | 2 => some .unitNode
  | _ => Option.none

/-- The number is a node address (R181). -/
def isNode (a : Nat) : Bool :=
  1 ≤ a && a ≤ topNode

/-! ### Codes a reply carries (R198) -/

def linkCode : LinkStatus → Nat
  | .ok => 0
  | .sum => 1
  | .form => 2
  | .unknown => 3

def ReqStatus.code : ReqStatus → Nat
  | .none => 0
  | .done => 1
  | .param => 2
  | .noRecord => 3
  | .owner => 4
  | .stale => 5
  | .state => 6
  | .busy => 7
  | .full => 8
  | .late => 9
  | .notReady => 10
  | .protect => 11

def Circuit.code : Circuit → Nat
  | .vacant => 0
  | .outOfCircuit => 1
  | .inCircuit => 2

def AeState.code : AeState → Nat
  | .none => 0
  | .suspect => 1
  | .waiting => 2
  | .quenching => 3
  | .settling => 4

def Direction.code : Direction → Nat
  | .cutIn => 1
  | .cutOut => 2

def SwitchPhase.code : SwitchPhase → Nat
  | .queued => 1
  | .ramping => 2
  | .opened => 3

def SwitchResult.code : SwitchResult → Nat
  | .none => 0
  | .completed => 1
  | .cancelled => 2
  | .expired => 3
  | .rampFailed => 4
  | .aeCancelled => 5

def UnitState.code : UnitState → Nat
  | .absent => 0
  | .idle => 1
  | .serving => 2
  | .tripping => 3
  | .locked => 4
  | .lost => 5

def TripCause.code : TripCause → Nat
  | .none => 0
  | .temperature => 1
  | .flow => 2
  | .lineMaster => 3

def LineMode.code : LineMode → Nat
  | .adopt => 0
  | .run => 1
  | .hold => 2

def Governing.code : Governing → Nat
  | .adopt => 0
  | .hold => 1
  | .ramp => 2
  | .frozen => 3
  | .switching => 4
  | .capacity => 5
  | .voltage => 6
  | .floor => 7
  | .demand => 8
  | .request => 9

def GovernorState.code : GovernorState → Nat
  | .off => 0
  | .limiting => 1

def kindCode : NodeKind → Nat
  | .potNode => 1
  | .unitNode => 2

def Presence.code : Presence → Nat
  | .active => 1
  | .absent => 2

/-- Fields that are yes or no, and the lock (R198). -/
def yesNo (b : Bool) : Nat :=
  if b then 1 else 0

/-- The switch phase of a record, none 0 (R16). -/
def PotRecord.phaseCode (r : PotRecord) : Nat :=
  match r.switch with
  | Option.none => 0
  | some w => w.phase.code

/-- The switch byte of the record image: direction in bits 4 to 7, phase in bits 0 to 3 (R198). -/
def PotRecord.switchByte (r : PotRecord) : Nat :=
  match r.switch with
  | Option.none => 0
  | some w => w.direction.code * 16 + w.phase.code

/-- The two bytes of a current that no rule clamps (F and the setpoint, R122, R198). DESIGN CHOICE: a free value where it
is above 65,535 (notes/assumptions/1). -/
def currentBytes (current : Nat) : List Byte :=
  be 2 (if current ≤ topCurrent then current else (Config.currentBeyond current).toNat)

/-- An age as the payloads carry it: in seconds, saturating at 65,535 (R198). -/
def ageField (now stamp : Nat) : Nat :=
  saturate 65535 (age now stamp)

end Sys2Proof.Machine
end

