-- ==== Sys2Proof/Machine/Links.lean ====
section
/-! DEFINITION. The two links at the grain of requests: when a request is taken on each, who it is attributed to, the
reply that is sent, and the bytes of a reply frame (chapters 10 and 11). -/

namespace Sys2Proof.Machine

/-- A reply with link status OK and a payload, final. -/
def Reply.served (status : ReqStatus) (payload : List Byte) : Reply :=
  ⟨.ok, status, payload, false⟩

/-- The reply to a frame that is not a request: its link status, request status NONE, no payload (R187, R192). -/
def Reply.notTaken (link : LinkStatus) : Reply :=
  ⟨link, .none, [], false⟩

/-- The bytes of a reply frame (R198). -/
def Reply.bytes (r : Reply) : List Byte :=
  frameAround (be 1 (linkCode r.link) ++ be 1 r.status.code ++ r.payload)
    (if r.continued then continuedMarker else finalMarker)

/-- The characters of a reply on the field link: every one with mark 0 (R180, R190). -/
def Reply.fieldChars (r : Reply) : List FieldChar :=
  r.bytes.map (⟨false, ·⟩)

/-- The turn character of a turn: mark 1, and the address of the node that is given the turn (R180, R186). -/
def Turn.character (t : Turn) : FieldChar :=
  ⟨true, BitVec.ofNat 8 t.address⟩

/-- The characters the part sends in the turn in progress: the turn character, and the reply once it is begun (R180,
R190). -/
def FieldLink.sent (f : FieldLink) : List FieldChar :=
  match f.turn with
  | some t => t.character :: (f.reply.map Reply.fieldChars).getD []
  | Option.none => []

/-! ### The line master port (R192 to R194) -/

/-- The receiver takes a frame: no reply is being sent (R194) and no break waits for the idle level (R193). -/
def LinePort.takes (p : LinePort) : Bool :=
  p.reply.isNone && !p.waitIdle

/-- A reply frame begun, with the frames of a multi-frame reply that are due after it. -/
def State.sendFrames (s : State) (first : Reply) (due : List Reply) : State :=
  { s with port := { s.port with reply := some first, due := due } }

/-- A load in progress abandoned and discarded (R165, R193). -/
def State.abandonLoad (s : State) : State :=
  { s with tariff := { s.tariff with load := Option.none } }

/-- A LOAD TARIFF frame with link status OK: served where the receiver takes it, and answered by one frame. A frame whose
characters arrive otherwise is discarded (R194). -/
def State.loadFrame (s : State) (serve : State → State × Reply) : State :=
  if s.port.takes then
    let served := serve s
    served.1.sendFrames served.2 []
  else s

/-- Any other line master request with link status OK: it abandons a load in progress before it is served (R165). -/
def State.lineRequest (s : State) (serve : State → State × Reply) : State :=
  s.loadFrame fun t => serve t.abandonLoad

/-- A request answered with a status and no payload. -/
def State.answer (s : State) (status : ReqStatus) : State × Reply :=
  (s, Reply.served status [])

/-! ### The field link (R187 to R190) -/

/-- A ring entry after a turn at which a character was received (R188). -/
def RingEntry.answered (e : RingEntry) : RingEntry :=
  { e with presence := .active, misses := 0, passCounter := 0 }

/-- The ring with the entry at an index changed. -/
def changeEntry (ring : List RingEntry) (index : Nat) (change : RingEntry → RingEntry) : List RingEntry :=
  ring.modify index change

/-- The entry that holds the turn changed, where it still stands in the ring. -/
def FieldLink.changeHolder (f : FieldLink) (change : RingEntry → RingEntry) : FieldLink :=
  match f.turn, f.walk with
  | some t, some index => if t.entryStands then { f with ring := changeEntry f.ring index change } else f
  | _, _ => f

/-- The turn whose response window runs, if any. -/
def FieldLink.awaited (f : FieldLink) : Option Turn :=
  match f.turn with
  | some t => if t.phase = .await then some t else Option.none
  | Option.none => Option.none

/-- The node has answered its turn: the entry's presence and misses are set (R188). -/
def State.nodeAnswered (s : State) : State :=
  { s with field := s.field.changeHolder RingEntry.answered }

/-- The reply of the turn in progress begun. -/
def State.sendFieldReply (s : State) (r : Reply) : State :=
  { s with field := { s.field with
      reply := some r, turn := s.field.turn.map fun t => { t with phase := TurnPhase.reply } } }

/-- A frame of good form with the code of a field request, received in a turn: served as the request of the node that
holds the turn where its kind may send it, answered UNKNOWN where it may not (R187, R189). A node speaks only in its own
turn (R180): where no response window runs there is no such frame. -/
def State.fieldRequest (s : State) (kinds : List NodeKind) (serve : Nat → State → State × Reply) : State :=
  match s.field.awaited with
  | some t =>
    if kinds.contains t.kind then
      let served := serve t.address s.nodeAnswered
      served.1.sendFieldReply served.2
    else s.nodeAnswered.sendFieldReply (Reply.notTaken .unknown)
  | Option.none => s

end Sys2Proof.Machine
end

