-- ==== Sys2Proof/Machine/Attention.lean ====
section
/-! DEFINITION. Attention (chapter 9): the commands GET_ATTENTION, ACK_ATTENTION and SET_ATTENTION_MASK. -/

namespace Sys2Proof.Machine

/-- The lowest code among the pending and enabled sources (R176). -/
def AttentionUnit.first (a : AttentionUnit) : Option Nat :=
  sourceCodes.find? a.waiting

/-- The pending marks, bit n − 1 for code n (R176, R198). -/
def AttentionUnit.pendingMarks (a : AttentionUnit) : Nat :=
  (sourceCodes.map fun c => flagBit (a.source c).pending (c - 1)).sum

/-- The code, count and detail of GET ATTENTION (R176). -/
def AttentionUnit.firstBytes (a : AttentionUnit) : List Byte :=
  match a.first with
  | some c => be 1 c ++ be 1 (a.source c).count ++ be 2 (a.source c).detail
  | Option.none => be 1 0 ++ be 1 0 ++ be 2 0

/-- The 8 bytes of the GET ATTENTION reply (R176, R198). -/
def AttentionUnit.image (a : AttentionUnit) : List Byte :=
  a.firstBytes ++ be 2 a.pendingMarks ++ be 2 a.mask.toNat

/-- GET ATTENTION served (R176). -/
def State.serveGetAttention (s : State) : State × Reply :=
  (s, Reply.served .done s.attention.image)

/-- GET_ATTENTION (R176). -/
def execGetAttention (s : State) : Host.Outcome State Fault Refusal :=
  .next (s.lineRequest fun t => t.serveGetAttention)

/-- The number is a source code (R172). -/
def isSourceCode (code : Nat) : Bool :=
  1 ≤ code && code ≤ 12

/-- The status of an ACK ATTENTION (R177). -/
def AttentionUnit.ackStatus (a : AttentionUnit) (code count : Nat) : ReqStatus :=
  if !isSourceCode code then .param
  else if !(a.source code).pending then .late
  else if (a.source code).count ≠ count then .late
  else .done

/-- The Attention Unit written. -/
def State.withAttention (s : State) (a : AttentionUnit) : State :=
  { s with attention := a }

/-- ACK ATTENTION served (R177, R178). -/
def State.serveAck (s : State) (code count : Nat) : State × Reply :=
  let status := s.attention.ackStatus code count
  if status = .done then
    (s.withAttention (s.attention.put code (s.attention.source code).acknowledged)).answer .done
  else s.answer status

/-- ACK_ATTENTION (R177, R178). -/
def execAckAttention (code count : Nat) (s : State) : Host.Outcome State Fault Refusal :=
  .next (s.lineRequest fun t => t.serveAck code count)

/-- The mask replaced and ATTN settled (R174, R175). -/
def AttentionUnit.withMask (a : AttentionUnit) (marks : Nat) : AttentionUnit :=
  AttentionUnit.settle { a with mask := BitVec.ofNat 12 marks }

/-- SET ATTENTION MASK served: a mark at any of bits 12 to 15 gives PARAM (R174, R198). -/
def State.serveSetMask (s : State) (marks : Nat) : State × Reply :=
  if 4096 ≤ marks then s.answer .param
  else (s.withAttention (s.attention.withMask marks)).answer .done

/-- SET_ATTENTION_MASK (R174). -/
def execSetAttentionMask (marks : Nat) (s : State) : Host.Outcome State Fault Refusal :=
  .next (s.lineRequest fun t => t.serveSetMask marks)

end Sys2Proof.Machine
end

