-- ==== Sys2Proof/Machine/Evaluation.lean ====
section
/-! DEFINITION. The evaluation of the limit chain (chapter 6.3 to 6.5): the limits, the governing limit, the movement of the
setpoint by the rule of the line mode, and the split into unit demands. Every dispatch cycle and event evaluation is
`State.evaluate`. -/

namespace Sys2Proof.Machine

/-! ### The limits (R116, R117, R118) -/

/-- The numerator of the voltage-limited current with k slots counted, signed (R116 step 1). -/
def State.vlimNumerator (s : State) (k : Nat) : Int :=
  (s.vCap : Int) - s.params.vBaseReserve - k * s.params.qRes - s.pots.nIn * s.params.e0

/-- The denominator of the voltage-limited current (R116 step 2). -/
def State.vlimDenominator (s : State) : Nat :=
  s.pots.sumR + s.pots.nOut * s.params.rBypass + s.params.rBus

/-- The voltage-limited current computed with a held-slot count (R116). -/
def State.voltageLimit (s : State) (k : Nat) : Nat :=
  if s.vlimNumerator k ≤ 0 then 0
  else if s.vlimDenominator = 0 then topCurrent
  else min topCurrent ((s.vlimNumerator k).toNat * 100000 / s.vlimDenominator)

/-- I_sw, the switching limit (R68, R117). -/
def State.iSw (s : State) : Nat :=
  if s.switching.queue = [] then topCurrent else s.params.iCeiling

/-- The limits of the chain as their inputs stand (R116, R117, R118). -/
def State.limitsNow (s : State) : Limits :=
  let iVlim := s.voltageLimit s.heldSlots
  let iDlim := s.meter.governor.iDlim
  let floored := max iDlim s.params.iFloor
  { iCap := s.iCap, iVlim := iVlim, iDlim := iDlim, floored := floored, iSw := s.iSw
    iLim := min s.current.target (min s.iCap (min iVlim (min floored s.iSw))) }

/-- The chain limit: the first limit in the order of R118 whose value equals I_lim, lifted limits passed over. -/
def State.chainLimit (s : State) (l : Limits) : Governing :=
  if s.switching.queue ≠ [] ∧ l.iSw = l.iLim then .switching
  else if l.iCap = l.iLim then .capacity
  else if l.iVlim = l.iLim then .voltage
  else if s.meter.governor.state = .limiting ∧ l.floored = l.iLim then
    if l.iDlim < s.params.iFloor then .floor else .demand
  else .request

/-! ### The split into unit demands (R125, R126, R127) -/

/-- The units of a list that take a count of the shortfall: eligible with a capacity above 0 (R126). -/
def UnitRecord.takesCount (r : UnitRecord) : Bool :=
  r.eligible && 0 < r.capacity

/-- A unit's share before the shortfall: remainder × capacity / C, truncated (R125 step 5); 0 where C is 0 (step 4). -/
def UnitRecord.splitShare (r : UnitRecord) (remainder c : Nat) : Nat :=
  if r.eligible then (if c = 0 then 0 else remainder * r.capacity / c) else 0

/-- The remainder that the eligible units share (R125 step 2). -/
def State.splitRemainder (s : State) : Nat :=
  s.current.setpoint - s.frozenSum

/-- The shortfall of the split (R125). -/
def State.splitShortfall (s : State) : Nat :=
  s.splitRemainder - (s.units.toList.map fun u => u.splitShare s.splitRemainder s.capacitySum).sum

/-- The demand the split gives the unit at an index of the table: an eligible unit's share plus one count while the
shortfall reaches it in ascending unit number (R126); every other demand stands (R127). -/
def State.splitDemand (s : State) (index : Nat) (u : UnitRecord) : Nat :=
  if u.eligible then
    u.splitShare s.splitRemainder s.capacitySum
      + (if u.takesCount ∧ (s.units.toList.take index).countP UnitRecord.takesCount < s.splitShortfall then 1 else 0)
  else u.demand

/-- The setpoint split into unit demands (R125, R126). -/
def State.split (s : State) : State :=
  { s with units := s.units.mapIdx fun index u => { u with demand := s.splitDemand index u } }

/-! ### Moving the setpoint (R111, R119 to R123) -/

/-- The candidate of R120 at a dispatch cycle, and of R121 at an event evaluation. -/
def State.candidate (s : State) (cycle : Bool) (iLim : Nat) : Nat :=
  let sp := s.current.setpoint
  if cycle then (if sp ≤ iLim then min iLim (sp + s.params.rampStep) else iLim) else min sp iLim

/-- The setpoint and the governing limit after an evaluation with given limits, by the rule of the line mode (R111 in
ADOPT, R120 to R122 in RUN, R123 in HOLD). -/
def State.moved (s : State) (cycle : Bool) (l : Limits) : Nat × Governing :=
  match s.current.mode with
  | .adopt => (s.iMeas, .adopt)
  | .run =>
    let candidate := s.candidate cycle l.iLim
    let sp := max candidate s.frozenSum
    (sp, if candidate < s.frozenSum then .frozen else if sp < l.iLim then .ramp else s.chainLimit l)
  | .hold => (max (min s.current.setpoint (min l.iCap l.iVlim)) s.frozenSum, .hold)

/-- The setpoint, the governing limit and the stored limits of an evaluation written. -/
def State.withMoved (s : State) (l : Limits) (m : Nat × Governing) : State :=
  { s with current := { s.current with setpoint := m.1, governing := m.2, limits := l } }

/-- VOLTAGE LIMIT is raised where VOLTAGE governs and another name governed before (R119). -/
def State.noteVoltage (s : State) (before : Governing) : State :=
  if s.current.governing = .voltage ∧ before ≠ .voltage then s.raise .voltageLimit 0 else s

/-- The split of an evaluation: made in RUN and HOLD (R125), not in ADOPT (R111). -/
def State.splitInMode (s : State) : State :=
  if s.current.mode = .adopt then s else s.split

/-- One evaluation of the limit chain, at a dispatch cycle or at an event (R112 steps 1 to 4, R113). -/
def State.evaluate (s : State) (cycle : Bool) : State :=
  let l := s.limitsNow
  let moved := s.withMoved l (s.moved cycle l)
  (moved.noteVoltage s.current.governing).splitInMode

/-- An event evaluation (R113). -/
def State.eventEvaluation (s : State) : State :=
  s.evaluate false

/-! ### The line parameters (R128, R129) -/

/-- The parameter an identifier names, 1 (E0) to 26 (line master speed), with its value (R128, R198). -/
def Params.get (p : Params) : Nat → Option Nat
  | 1 => some p.e0
  | 2 => some p.rNom
  | 3 => some p.rBypass
  | 4 => some p.rBus
  | 5 => some p.vBaseReserve
  | 6 => some p.qRes
  | 7 => some p.iFloor
  | 8 => some p.iCeiling
  | 9 => some p.rampStep
  | 10 => some p.iRmin
  | 11 => some p.vAe
  | 12 => some p.vAeEnd
  | 13 => some p.tConfirm
  | 14 => some p.tEsc
  | 15 => some p.tQuench
  | 16 => some p.tSettle
  | 17 => some p.tStartHold
  | 18 => some p.tPotSilent
  | 19 => some p.tUnitSilent
  | 20 => some p.tUnitLost
  | 21 => some p.tFlowGrace
  | 22 => some p.tRampFail
  | 23 => some p.tWindow
  | 24 => some p.shedLimit
  | 25 => some p.fieldSpeed
  | 26 => some p.portSpeed
  | _ => Option.none

/-- The parameter set with the named parameter replaced. -/
def Params.set (p : Params) (identifier v : Nat) : Params :=
  match identifier with
  | 1 => { p with e0 := v }
  | 2 => { p with rNom := v }
  | 3 => { p with rBypass := v }
  | 4 => { p with rBus := v }
  | 5 => { p with vBaseReserve := v }
  | 6 => { p with qRes := v }
  | 7 => { p with iFloor := v }
  | 8 => { p with iCeiling := v }
  | 9 => { p with rampStep := v }
  | 10 => { p with iRmin := v }
  | 11 => { p with vAe := v }
  | 12 => { p with vAeEnd := v }
  | 13 => { p with tConfirm := v }
  | 14 => { p with tEsc := v }
  | 15 => { p with tQuench := v }
  | 16 => { p with tSettle := v }
  | 17 => { p with tStartHold := v }
  | 18 => { p with tPotSilent := v }
  | 19 => { p with tUnitSilent := v }
  | 20 => { p with tUnitLost := v }
  | 21 => { p with tFlowGrace := v }
  | 22 => { p with tRampFail := v }
  | 23 => { p with tWindow := v }
  | 24 => { p with shedLimit := v }
  | 25 => { p with fieldSpeed := v }
  | 26 => { p with portSpeed := v }
  | _ => p

/-- The four link speeds (R128). -/
def speeds : List Nat :=
  [19200, 38400, 57600, 115200]

/-- The range of each parameter in the table of R128. The bounds of V_AE_end and T_unit_lost that name a partner stand in
`Params.crossGood`. -/
def paramInRange (identifier v : Nat) : Bool :=
  let within (lo hi : Nat) : Bool := lo ≤ v && v ≤ hi
  match identifier with
  | 1 => within 1000 2500
  | 2 => within 1000 20000
  | 3 => within 0 1000
  | 4 => within 0 65535
  | 5 => within 0 500000
  | 6 => within 0 100000
  | 7 => within 0 65535
  | 8 => within 0 65535
  | 9 => within 1 1000
  | 10 => within 1000 65535
  | 11 => within 5000 30000
  | 12 => 3000 ≤ v
  | 13 => within 1 30
  | 14 => within 30 1800
  | 15 => within 30 900
  | 16 => within 5 300
  | 17 => within 0 1440
  | 18 => within 5 120
  | 19 => within 2 30
  | 20 => v ≤ 120
  | 21 => within 5 120
  | 22 => within 30 1800
  | 23 => within 60 3600
  | 24 => within 0 topLimit
  | 25 => speeds.contains v
  | 26 => speeds.contains v
  | _ => false

/-- The cross-constraints of R128 and R129 against the present value of the partner. -/
def Params.crossGood (p : Params) (identifier v : Nat) : Bool :=
  match identifier with
  | 11 => p.vAeEnd + 500 ≤ v
  | 12 => v + 500 ≤ p.vAe
  | 19 => v < p.tUnitLost
  | 20 => p.tUnitSilent < v
  | _ => true

/-- The parameters whose change calls for an event evaluation: E0, R_bypass, R_bus, V_base_reserve, Q_res, I_floor and
I_ceiling (R130). -/
def paramCallsEvaluation (identifier : Nat) : Bool :=
  [1, 3, 4, 5, 6, 7, 8].contains identifier

end Sys2Proof.Machine
end

