-- ==== Sys2Proof/Machine/Quench.lean ====
section
/-! DEFINITION. Quench Permits (chapter 3): the quench queue and its order, the slots, the grant evaluation, and the commands
QUENCH_END, SETTLE_EXPIRY and PERMIT_EXPIRY. -/

namespace Sys2Proof.Machine

/-! ### The quench queue (R44, R45) -/

/-- The age of a pot's start stamp; 0 where it carries none. -/
def State.startAge (s : State) (p : Nat) : Nat :=
  match (s.pot p).startStamp with
  | some stamp => age s.now stamp
  | Option.none => 0

/-- ESCALATED before NORMAL (R44 key 1). -/
def AeClass.rank : AeClass → Nat
  | .escalated => 0
  | .normal => 1

/-- Pot `p` stands ahead of pot `q` in the order of R44: class, then the older start stamp, then the lower position.
DEDUCED: the older stamp is the one of greater age, which holds across the counter's return (R134; notes/assumptions/3). -/
def State.standsAhead (s : State) (p q : Nat) : Bool :=
  let a := (s.pot p).aeClass.rank
  let b := (s.pot q).aeClass.rank
  if a ≠ b then a < b
  else if s.startAge p ≠ s.startAge q then s.startAge q < s.startAge p
  else p < q

/-- An entry placed directly ahead of the first entry that follows it, or at the tail (R45). -/
def placeAhead (follows : Nat → Bool) (p : Nat) : List Nat → List Nat
  | [] => [p]
  | q :: rest => if follows q then p :: q :: rest else q :: placeAhead follows p rest

/-- The quench queue written. -/
def State.withQuenchQueue (s : State) (queue : List Nat) : State :=
  { s with quench := { s.quench with queue := queue } }

/-- A pot enters the quench queue (R45). -/
def State.enterQuenchQueue (s : State) (p : Nat) : State :=
  s.withQuenchQueue (placeAhead (s.standsAhead p) p s.quench.queue)

/-- A pot leaves the quench queue (R45). -/
def State.leaveQuenchQueue (s : State) (p : Nat) : State :=
  s.withQuenchQueue (s.quench.queue.erase p)

/-- The 1-based queue position of a pot (R45). -/
def State.queuePosition (s : State) (p : Nat) : Nat :=
  s.quench.queue.idxOf p + 1

/-- The quench slot or queue position as R16 defines it. -/
def State.slotOrPlace (s : State) (p : Nat) : Nat :=
  match (s.pot p).ae with
  | .quenching => (s.pot p).slot.getD 0
  | .waiting => s.queuePosition p
  | _ => 0

/-! ### Grants (R48 to R51) -/

/-- The lowest-numbered FREE slot (R50). -/
def State.freeSlot (s : State) : Option Nat :=
  [1, 2, 3, 4].find? fun k => (s.slot k).isNone

/-- The grant test (R49). -/
def State.grantTest (s : State) : Bool :=
  s.heldSlots == 0 || s.params.iFloor ≤ s.voltageLimit (s.heldSlots + 1)

/-- The head of the queue granted a slot (R50). -/
def State.grant (s : State) (p slot : Nat) : State :=
  let held := (s.putSlot slot (some ⟨p, s.now⟩)).leaveQuenchQueue p
  (held.putPot p { s.pot p with ae := .quenching, slot := some slot }).eventEvaluation

/-- The loop of R48, at most a given number of grants. -/
def State.grantLoop : Nat → State → State
  | 0, s => s
  | n + 1, s =>
    match s.quench.queue, s.freeSlot with
    | p :: _, some slot => if s.grantTest then State.grantLoop n (s.grant p slot) else s
    | _, _ => s

/-- A grant evaluation (R48): there are four slots, so it makes at most four grants. -/
def State.grantEvaluation (s : State) : State :=
  State.grantLoop 4 s

/-! ### Releases (R47, R53, R56) -/

/-- The slot a pot holds becomes FREE. -/
def State.freeSlotOf (s : State) (p : Nat) : State :=
  match (s.pot p).slot with
  | some k => s.putSlot k Option.none
  | Option.none => s

/-- A served QUENCH END, before the grant evaluation (R53 steps 1 and 2). -/
def State.endQuench (s : State) (p : Nat) : State :=
  (s.freeSlotOf p).putPot p { s.pot p with ae := .settling, slot := Option.none, settleStamp := some s.now }

/-- The status of a QUENCH END (R52). -/
def State.quenchEndStatus (s : State) (node position tag : Nat) : ReqStatus :=
  if s.identity (some node) position tag ≠ .done then s.identity (some node) position tag
  else if s.current.mode = .adopt then .notReady
  else if (s.pot position).ae ≠ .quenching then .late
  else .done

/-- The reply of QUENCH END: AE state and slot or queue position, zero where the identity check refused it (R190). -/
def State.quenchEndPayload (s : State) (status : ReqStatus) (position : Nat) : List Byte :=
  if status = .done ∨ status = .late ∨ status = .notReady then
    be 1 (s.pot position).ae.code ++ be 2 (s.slotOrPlace position)
  else be 1 0 ++ be 2 0

/-- QUENCH END served for the node that holds the turn (R52, R53). -/
def State.serveQuenchEnd (s : State) (node position tag : Nat) : State × Reply :=
  let status := s.quenchEndStatus node position tag
  let t := if status = .done then (s.endQuench position).grantEvaluation else s
  (t, Reply.served status (t.quenchEndPayload status position))

/-- QUENCH_END (R52, R53, R190). -/
def execQuenchEnd (position tag : Nat) (s : State) : Host.Outcome State Fault Refusal :=
  .next (s.fieldRequest [.potNode] fun node t => t.serveQuenchEnd node position tag)

/-! ### Settle and permit expiry (R54 to R57, R60) -/

/-- The settle stamp of a record has run out at the latest advance (R54, R60). -/
def State.settleDue (s : State) (p : Nat) : Bool :=
  match (s.pot p).ae, (s.pot p).settleStamp with
  | .settling, some stamp => s.meter.atAdvance.tSettle ≤ age s.now stamp
  | _, _ => false

/-- A settle expiry, before the grant evaluation (R55 steps 1 to 3). -/
def State.settleExpired (s : State) (p : Nat) : State :=
  (s.putPot p { s.pot p with ae := .waiting, aeClass := .escalated, settleStamp := Option.none }).enterQuenchQueue p

/-- SETTLE_EXPIRY (R55): the examination of one record's settle stamp. -/
def execSettleExpiry (position : Nat) (s : State) : Host.Outcome State Fault Refusal :=
  .next (if s.settleDue position then (s.settleExpired position).grantEvaluation else s)

/-- The permit of a slot has run out at the latest advance (R56, R60). -/
def State.permitDue (s : State) (k : Nat) : Bool :=
  match s.slot k with
  | some held => s.meter.atAdvance.tQuench ≤ age s.now held.grantStamp
  | Option.none => false

/-- A permit expiry of a slot that a pot holds, before the grant evaluation (R56 steps 1 to 5). -/
def State.permitExpired (s : State) (k p : Nat) : State :=
  let r := s.pot p
  let revoked := (s.putSlot k Option.none).putPot p
    { r with ae := .waiting, slot := Option.none, overruns := saturate 255 (r.overruns + 1) }
  (revoked.raise .quenchOverrun p).enterQuenchQueue p

/-- PERMIT_EXPIRY (R56): the examination of one slot's grant stamp. -/
def execPermitExpiry (slot : Nat) (s : State) : Host.Outcome State Fault Refusal :=
  .next
    (match s.slot slot with
    | some held => if s.permitDue slot then (s.permitExpired slot held.position).grantEvaluation else s
    | Option.none => s)

end Sys2Proof.Machine
end

