-- ==== Sys2Proof/Machine/Switching.lean ====
section
/-! DEFINITION. Pot Switching (chapter 4) with the circuit changes it has the Pot Register apply (R21, R22): the switch queue,
and the commands SWITCH_REQUEST, SWITCH_DONE, SWITCH_CANCEL, RAMP_FAILURE and WINDOW_EXPIRY. -/

namespace Sys2Proof.Machine

/-! ### Circuit changes (R10, R21, R22, R31) -/

/-- The voltage estimate E0 + I_meas × R_nom / 100,000, truncated (R10, R21). -/
def State.voltageEstimate (s : State) : Nat :=
  s.params.e0 + s.iMeas * s.params.rNom / 100000

/-- The start hold end set at admission to IN and at cut-in; absent where T_start_hold is 0 (R10, R21, R31). -/
def State.newStartHold (s : State) : Option Nat :=
  if s.params.tStartHold = 0 then Option.none else some (later s.now (s.params.tStartHold * 60))

/-- The record of an OUT pot after a completed cut-in (R21). -/
def State.cutInRecord (s : State) (r : PotRecord) : PotRecord :=
  { r with
    circuit := .inCircuit, voltage := s.voltageEstimate, resistance := s.params.rNom, startHoldEnd := s.newStartHold }

/-- The record of an IN pot after a completed cut-out (R22, R42). -/
def PotRecord.cutOut (r : PotRecord) : PotRecord :=
  { r with
    circuit := .outOfCircuit, voltage := 0, ae := .none, aeClass := .normal, startStamp := Option.none
    startHoldEnd := Option.none }

/-! ### The switch queue (R64, R65) -/

/-- The switch queue written. -/
def State.withSwitchQueue (s : State) (queue : List Nat) : State :=
  { s with switching := { s.switching with queue := queue } }

/-- A new head enters RAMPING with the present line-seconds value (R65). -/
def State.startHead (s : State) (p : Nat) : State :=
  s.putPot p { s.pot p with switch := (s.pot p).switch.map fun w => { w with phase := .ramping, stamp := s.now } }

/-- A pot is taken out of the switch queue and the queue advances (R65). -/
def State.advanceSwitchQueue (s : State) (p : Nat) : State :=
  match s.switching.queue with
  | [] => s
  | head :: rest =>
    if head = p then
      match rest with
      | [] => s.withSwitchQueue []
      | next :: _ => (s.withSwitchQueue rest).startHead next
    else s.withSwitchQueue ((head :: rest).erase p)

/-- A switch record leaves its pot record with a result, and the queue advances (R63, R65, R78). -/
def State.endSwitch (s : State) (p : Nat) (result : SwitchResult) : State :=
  (s.putPot p { s.pot p with switch := Option.none, lastSwitch := result }).advanceSwitchQueue p

/-! ### SWITCH REQUEST (R66, R67) -/

/-- The circuit state a direction is asked of (R66 check 4). -/
def Direction.from : Direction → Circuit
  | .cutIn => .outOfCircuit
  | .cutOut => .inCircuit

/-- The status of a SWITCH REQUEST (R66). -/
def State.switchRequestStatus (s : State) (node position tag direction : Nat) : ReqStatus :=
  if s.identity (some node) position tag ≠ .done then s.identity (some node) position tag
  else
    match directionOf direction with
    | Option.none => .param
    | some d =>
      if s.current.mode = .adopt then .notReady
      else if s.current.mode = .hold then .state
      else if (s.pot position).circuit ≠ d.from then .state
      else if (s.pot position).ae ≠ .none then .state
      else if (s.pot position).switch.isSome then .busy
      else if 8 ≤ s.switching.queue.length then .full
      else .done

/-- An accepted SWITCH REQUEST (R67): the record, the queue, and the ceiling imposed on a queue that was empty (R68). -/
def State.startSwitch (s : State) (p : Nat) (d : Direction) : State :=
  let first : Bool := s.switching.queue.isEmpty
  let phase : SwitchPhase := if first then .ramping else .queued
  let t := (s.putPot p { s.pot p with switch := some ⟨d, phase, s.now⟩ }).withSwitchQueue (s.switching.queue ++ [p])
  if first then t.eventEvaluation else t

/-- SWITCH REQUEST served for the node that holds the turn (R66, R67, R190). -/
def State.serveSwitchRequest (s : State) (node position tag direction : Nat) : State × Reply :=
  let status := s.switchRequestStatus node position tag direction
  match status, directionOf direction with
  | .done, some d =>
    let t := s.startSwitch position d
    (t, Reply.served .done (be 1 (t.switching.queue.idxOf position + 1) ++ be 1 (t.pot position).phaseCode))
  | _, _ => (s, Reply.served status (be 1 0 ++ be 1 0))

/-- SWITCH_REQUEST (R66, R67). -/
def execSwitchRequest (position tag direction : Nat) (s : State) : Host.Outcome State Fault Refusal :=
  .next (s.fieldRequest [.potNode] fun node t => t.serveSwitchRequest node position tag direction)

/-! ### SWITCH DONE (R73, R74) -/

/-- The status of a SWITCH DONE (R73). -/
def State.switchDoneStatus (s : State) (node position tag : Nat) : ReqStatus :=
  if s.identity (some node) position tag ≠ .done then s.identity (some node) position tag
  else
    match (s.pot position).switch with
    | Option.none => .late
    | some w => if w.phase = .opened then .done else .state

/-- The circuit change a switch record names (R74 step 1). -/
def State.applySwitch (s : State) (p : Nat) : State :=
  match (s.pot p).switch with
  | some w =>
    match w.direction with
    | .cutIn => s.putPot p (s.cutInRecord (s.pot p))
    | .cutOut => s.putPot p (s.pot p).cutOut
  | Option.none => s

/-- A completed switching operation (R74 steps 1 to 4). -/
def State.completeSwitch (s : State) (p : Nat) : State :=
  ((s.applySwitch p).endSwitch p .completed).raise .switchCompleted p

/-- The reply of SWITCH DONE and SWITCH CANCEL: the circuit state, zero where the identity check refused it (R190). -/
def State.circuitPayload (s : State) (status : ReqStatus) (position : Nat) : List Byte :=
  if status = .done ∨ status = .late ∨ status = .state then be 1 (s.pot position).circuit.code else be 1 0

/-- SWITCH DONE served for the node that holds the turn (R73, R74, R190). -/
def State.serveSwitchDone (s : State) (node position tag : Nat) : State × Reply :=
  let status := s.switchDoneStatus node position tag
  let t := if status = .done then s.completeSwitch position else s
  (t, Reply.served status (t.circuitPayload status position))

/-- SWITCH_DONE (R73, R74). -/
def execSwitchDone (position tag : Nat) (s : State) : Host.Outcome State Fault Refusal :=
  .next (s.fieldRequest [.potNode] fun node t => t.serveSwitchDone node position tag)

/-! ### SWITCH CANCEL (R77) -/

/-- The status of a SWITCH CANCEL (R77). -/
def State.switchCancelStatus (s : State) (node position tag : Nat) : ReqStatus :=
  if s.identity (some node) position tag ≠ .done then s.identity (some node) position tag
  else if (s.pot position).switch.isNone then .late
  else .done

/-- SWITCH CANCEL served for the node that holds the turn (R77, R190). -/
def State.serveSwitchCancel (s : State) (node position tag : Nat) : State × Reply :=
  let status := s.switchCancelStatus node position tag
  let t := if status = .done then s.endSwitch position .cancelled else s
  (t, Reply.served status (t.circuitPayload status position))

/-- SWITCH_CANCEL (R77). -/
def execSwitchCancel (position tag : Nat) (s : State) : Host.Outcome State Fault Refusal :=
  .next (s.fieldRequest [.potNode] fun node t => t.serveSwitchCancel node position tag)

/-! ### The timers of the head (R70, R71, R75, R79) -/

/-- The head of the switch queue with its switch record, if it has one. -/
def State.switchHead (s : State) : Option (Nat × SwitchRecord) :=
  match s.switching.queue with
  | [] => Option.none
  | p :: _ => (s.pot p).switch.map fun w => (p, w)

/-- The comparison of a dispatch cycle: a RAMPING head opens where I_meas is at most I_ceiling, in RUN (R70). -/
def State.compareHead (s : State) : State :=
  match s.switchHead with
  | some (p, w) =>
    if s.current.mode = .run ∧ w.phase = .ramping ∧ s.iMeas ≤ s.params.iCeiling then
      s.putPot p { s.pot p with switch := some { w with phase := .opened, stamp := s.now } }
    else s
  | Option.none => s

/-- A switching operation that ran out: the record leaves with a result and SWITCH EXPIRED is raised (R71, R75). -/
def State.expireSwitch (s : State) (p : Nat) (result : SwitchResult) : State :=
  (s.endSwitch p result).raise .switchExpired p

/-- RAMP_FAILURE (R71): the examination of a RAMPING head. -/
def execRampFailure (s : State) : Host.Outcome State Fault Refusal :=
  .next
    (match s.switchHead with
    | some (p, w) =>
      if w.phase = .ramping ∧ s.meter.atAdvance.tRampFail ≤ age s.now w.stamp then s.expireSwitch p .rampFailed else s
    | Option.none => s)

/-- WINDOW_EXPIRY (R75): the examination of an OPEN head. -/
def execWindowExpiry (s : State) : Host.Outcome State Fault Refusal :=
  .next
    (match s.switchHead with
    | some (p, w) =>
      if w.phase = .opened ∧ s.meter.atAdvance.tWindow ≤ age s.now w.stamp then s.expireSwitch p .expired else s
    | Option.none => s)

end Sys2Proof.Machine
end

