-- ==== Sys2Proof/Machine/Line.lean ====
section
/-! DEFINITION. The Current Dispatcher's commands (chapter 6): DISPATCH_CYCLE, SET_TARGET, SET_PARAM, READ_PARAM, READ_LINE,
RUN, HOLD and RESUME. -/

namespace Sys2Proof.Machine

/-! ### The dispatch cycle (R112, R133) -/

/-- The timebase moved to the next dispatch cycle (R133): of two cycles, the second completes the second. -/
def State.dividerAdvanced (s : State) : State :=
  { s with meter := { s.meter with divider := (s.meter.divider + 1) % 2 } }

/-- The Dispatcher's own work at a cycle and the grant evaluation, in the order taken (R48, R112). -/
def State.cycleWork (s : State) (arbiterFirst : Bool) : State :=
  if arbiterFirst then s.grantEvaluation.evaluate true else (s.evaluate true).grantEvaluation

/-- DISPATCH_CYCLE (R112): with the comparison of the ramping head (R70), which either order leaves the same. -/
def execDispatchCycle (arbiterFirst : Bool) (s : State) : Host.Outcome State Fault Refusal :=
  .next ((s.dividerAdvanced.cycleWork arbiterFirst).compareHead)

/-! ### Target and parameters (R115, R129 to R131) -/

/-- SET TARGET served (R115). -/
def State.serveSetTarget (s : State) (value : Nat) : State × Reply :=
  State.answer { s with current := { s.current with target := value } } .done

/-- SET_TARGET (R115). -/
def execSetTarget (value : Nat) (s : State) : Host.Outcome State Fault Refusal :=
  .next (s.lineRequest fun t => t.serveSetTarget value)

/-- A SET PARAM passes its checks (R129). -/
def State.setParamGood (s : State) (identifier value : Nat) : Bool :=
  (s.params.get identifier).isSome && paramInRange identifier value && s.params.crossGood identifier value

/-- A parameter stored (R130). -/
def State.withParam (s : State) (identifier value : Nat) : State :=
  { s with current := { s.current with params := s.params.set identifier value } }

/-- SET PARAM served (R129, R130). -/
def State.serveSetParam (s : State) (identifier value : Nat) : State × Reply :=
  if s.setParamGood identifier value then
    let t := s.withParam identifier value
    (if paramCallsEvaluation identifier then t.eventEvaluation else t).answer .done
  else s.answer .param

/-- SET_PARAM (R129, R130). -/
def execSetParam (identifier value : Nat) (s : State) : Host.Outcome State Fault Refusal :=
  .next (s.lineRequest fun t => t.serveSetParam identifier value)

/-- READ PARAM served (R131). -/
def State.serveReadParam (s : State) (identifier : Nat) : State × Reply :=
  match s.params.get identifier with
  | some v => (s, Reply.served .done (be 4 v))
  | Option.none => s.answer .param

/-- READ_PARAM (R131). -/
def execReadParam (identifier : Nat) (s : State) : Host.Outcome State Fault Refusal :=
  .next (s.lineRequest fun t => t.serveReadParam identifier)

/-! ### Line modes (R108 to R110) -/

/-- The line mode written. -/
def State.withMode (s : State) (mode : LineMode) : State :=
  { s with current := { s.current with mode := mode } }

/-- The setpoint written. -/
def State.withSetpoint (s : State) (setpoint : Nat) : State :=
  { s with current := { s.current with setpoint := setpoint } }

/-- RUN served (R108). -/
def State.serveRun (s : State) : State × Reply :=
  if s.current.mode ≠ .adopt then s.answer .state
  else if !(s.units.toList.any UnitRecord.serving) then s.answer .state
  else ((s.withMode .run).withSetpoint s.iMeas).eventEvaluation.answer .done

/-- RUN (R108). -/
def execRun (s : State) : Host.Outcome State Fault Refusal :=
  .next (s.lineRequest fun t => t.serveRun)

/-- HOLD served (R109). -/
def State.serveHold (s : State) : State × Reply :=
  if s.current.mode ≠ .run then s.answer .state
  else if s.switching.queue ≠ [] then s.answer .busy
  else (s.withMode .hold).eventEvaluation.answer .done

/-- HOLD (R109). -/
def execHold (s : State) : Host.Outcome State Fault Refusal :=
  .next (s.lineRequest fun t => t.serveHold)

/-- RESUME served (R110). -/
def State.serveResume (s : State) : State × Reply :=
  if s.current.mode ≠ .hold then s.answer .state
  else (s.withMode .run).eventEvaluation.answer .done

/-- RESUME (R110). -/
def execResume (s : State) : Host.Outcome State Fault Refusal :=
  .next (s.lineRequest fun t => t.serveResume)

/-! ### READ LINE (R132) -/

/-- The 5 bytes of a quench slot in READ LINE (R198). -/
def State.slotBytes (s : State) (k : Nat) : List Byte :=
  match s.slot k with
  | some held => be 1 1 ++ be 2 held.position ++ be 2 (ageField s.now held.grantStamp)
  | Option.none => be 1 0 ++ be 2 0 ++ be 2 0

/-- The bytes of the switch queue's head in READ LINE: its position, its switch byte and the age of its phase stamp, 0
where the queue is empty (R198). -/
def State.headBytes (s : State) : List Byte :=
  match s.switching.queue with
  | [] => be 2 0 ++ be 1 0 ++ be 2 0
  | p :: _ =>
    be 2 p ++ be 1 (s.pot p).switchByte
      ++ be 2 (match (s.pot p).switch with | some w => ageField s.now w.stamp | Option.none => 0)

/-- The stored limits in READ LINE (R198). -/
def Limits.bytes (l : Limits) : List Byte :=
  be 2 l.iCap ++ be 2 l.iVlim ++ be 2 l.iDlim ++ be 2 l.floored ++ be 2 l.iSw ++ be 2 l.iLim

/-- The 67 bytes of the READ LINE reply (R132, R198). -/
def State.lineImage (s : State) : List Byte :=
  be 1 s.current.mode.code ++ be 1 s.current.governing.code ++ be 1 s.meter.governor.state.code
    ++ currentBytes s.current.setpoint ++ be 2 s.current.target ++ s.current.limits.bytes
    ++ be 2 s.iMeas ++ be 4 s.vCap ++ currentBytes s.frozenSum
    ++ be 2 s.pots.nIn ++ be 2 s.pots.nOut ++ be 4 s.pots.sumR ++ be 4 s.pots.sumV
    ++ s.slotBytes 1 ++ s.slotBytes 2 ++ s.slotBytes 3 ++ s.slotBytes 4
    ++ be 2 s.quench.queue.length ++ be 1 s.switching.queue.length ++ s.headBytes

/-- READ LINE served (R132). -/
def State.serveReadLine (s : State) : State × Reply :=
  (s, Reply.served .done s.lineImage)

/-- READ_LINE (R132). -/
def execReadLine (s : State) : Host.Outcome State Fault Refusal :=
  .next (s.lineRequest fun t => t.serveReadLine)

end Sys2Proof.Machine
end

