-- ==== Sys2Proof/Machine/Tariff.lean ====
section
/-! DEFINITION. Tariff Table (chapter 8): the band in effect, the load and its validation, the application at a boundary, and
the commands LOAD_TARIFF, READ_TARIFF and LOCK_TARIFF. -/

namespace Sys2Proof.Machine

/-! ### Content (R162, R163) -/

/-- The eighteen interval lengths (R162). -/
def intervalLengths : List Nat :=
  [300, 360, 480, 540, 600, 720, 900, 960, 1080, 1200, 1440, 1800, 1920, 2160, 2400, 2700, 2880, 3600]

/-- The schedule of a day of week: REST where the mask marks the day, WORKING otherwise (R163 steps 1 and 2). -/
def TariffTable.schedule (t : TariffTable) (day : Nat) : List ChangePoint :=
  if t.restMask.testBit day then t.rest else t.working

/-- The band in effect: that of the last change point whose second is at most the time of day (R163 step 2). -/
def TariffTable.bandAt (t : TariffTable) (time day : Nat) : Nat :=
  match ((t.schedule day).filter fun c => c.second ≤ time).getLast? with
  | some c => c.band
  | Option.none => 1

/-- The contract limit of a band (R163 step 3). -/
def TariffTable.limitOf (t : TariffTable) (band : Nat) : Nat :=
  t.limits.getD (band - 1) 0

/-! ### Validation (R166) -/

/-- The first bad item of the change points from point `k`, after the second of the point before (R166 items 7 and 8). -/
def badPoint (part length bandCount : Nat) : Nat → Option Nat → List ChangePoint → Option BadItem
  | _, _, [] => Option.none
  | k, before, c :: rest =>
    let misplaced : Bool :=
      match before with
      | Option.none => c.second ≠ 0
      | some b => c.second ≤ b
    if misplaced ∨ c.second % length ≠ 0 ∨ daySeconds ≤ c.second then some ⟨part, 7, k⟩
    else if c.band < 1 ∨ bandCount < c.band then some ⟨part, 8, k⟩
    else badPoint part length bandCount (k + 1) (some c.second) rest

/-- The first bad item of a schedule (R166 items 5 to 8, 9 to 12). -/
def badSchedule (part : Nat) (h : TariffHeader) : Option (List ChangePoint) → Option BadItem
  | Option.none => some ⟨part, 5, 0⟩
  | some points =>
    if points.length < 1 ∨ 12 < points.length then some ⟨part, 6, 0⟩
    else badPoint part h.length h.bandCount 1 Option.none points

/-- The four limits a HEADER carries. -/
def headerLimits (h : TariffHeader) : List Nat :=
  [h.limit1, h.limit2, h.limit3, h.limit4]

/-- The first band of 1 to the band count whose limit is above 16,777,215 (R166 item 3). -/
def badLimit (h : TariffHeader) : Option Nat :=
  ([1, 2, 3, 4].take h.bandCount).find? fun b => topLimit < (headerLimits h).getD (b - 1) 0

/-- The first bad item of a HEADER (R166 items 1 to 4). -/
def badHeader (h : TariffHeader) : Option BadItem :=
  if !intervalLengths.contains h.length then some ⟨1, 1, 0⟩
  else if h.bandCount < 1 ∨ 4 < h.bandCount then some ⟨1, 2, 0⟩
  else
    match badLimit h with
    | some b => some ⟨1, 3, b⟩
    | Option.none => if 128 ≤ h.restMask then some ⟨1, 4, 0⟩ else Option.none

/-- The first bad item of a load, in the order of R166; a section that was not received is none. -/
def firstBad (h : TariffHeader) (working rest : Option (List ChangePoint)) : Option BadItem :=
  ((badHeader h).or (badSchedule 2 h working)).or (badSchedule 3 h rest)

/-- The table that validated sections make: the limits beyond the band count are ignored (R165). -/
def builtTable (h : TariffHeader) (working rest : List ChangePoint) : TariffTable where
  length := h.length
  bandCount := h.bandCount
  limits := (headerLimits h).take h.bandCount
  restMask := h.restMask
  working := working
  rest := rest

/-! ### Loading (R165 to R167) -/

/-- The load in progress written. -/
def State.withLoad (s : State) (load : Option TariffLoad) : State :=
  { s with tariff := { s.tariff with load := load } }

/-- A final frame: the load is validated (R166) and its table staged where no item is bad (R167). The load ends. -/
def State.finishLoad (s : State) (h : TariffHeader) (working rest : Option (List ChangePoint)) : State × Reply :=
  match firstBad h working rest with
  | some bad =>
    (s.withLoad Option.none, Reply.served .param (be 1 bad.part ++ be 1 bad.item ++ be 1 bad.index))
  | Option.none =>
    (State.withLoad
      { s with tariff := { s.tariff with
          staged := some (builtTable h (working.getD []) (rest.getD [])) } } Option.none,
      Reply.served .done [])

/-- A frame that ends the load without a validation (R165). -/
def State.dropLoad (s : State) : State × Reply :=
  (s.withLoad Option.none).answer .state

/-- One LOAD TARIFF frame served (R165). -/
def State.serveLoadTariff (s : State) (part : TariffPart) (final : Bool) : State × Reply :=
  match s.tariff.load with
  | Option.none =>
    if s.tariff.locked then s.answer .protect
    else
      match part with
      | .header h =>
        if final then s.finishLoad h Option.none Option.none
        else (s.withLoad (some (.expectWorking h))).answer .done
      | .working _ => s.answer .state
      | .rest _ => s.answer .state
  | some (.expectWorking h) =>
    match part with
    | .working points =>
      if final then s.finishLoad h (some points) Option.none
      else (s.withLoad (some (.expectRest h points))).answer .done
    | .header _ => s.dropLoad
    | .rest _ => s.dropLoad
  | some (.expectRest h working) =>
    match part with
    | .rest points => if final then s.finishLoad h (some working) (some points) else s.dropLoad
    | .header _ => s.dropLoad
    | .working _ => s.dropLoad

/-- LOAD_TARIFF (R165 to R167). -/
def execLoadTariff (part : TariffPart) (final : Bool) (s : State) : Host.Outcome State Fault Refusal :=
  .next (s.loadFrame fun t => t.serveLoadTariff part final)

/-! ### Application, lock and reading (R168 to R170) -/

/-- A staged table becomes active at a close by a tick whose time of day is a multiple of both lengths (R168). -/
def TariffStore.applied (t : TariffStore) (time : Nat) : TariffStore :=
  match t.staged with
  | some table =>
    if time % t.active.length = 0 ∧ time % table.length = 0 then { t with active := table, staged := Option.none } else t
  | Option.none => t

/-- LOCK TARIFF served (R169). -/
def State.serveLockTariff (s : State) : State × Reply :=
  State.answer { s with tariff := { s.tariff with locked := true } } .done

/-- LOCK_TARIFF (R169). -/
def execLockTariff (s : State) : Host.Outcome State Fault Refusal :=
  .next (s.lineRequest fun t => t.serveLockTariff)

/-- The bytes of a tariff table in READ TARIFF: the limits beyond the band count are sent as 0 (R198). -/
def TariffTable.bytes (t : TariffTable) : List Byte :=
  be 2 t.length ++ be 1 t.bandCount ++ be 4 (t.limits.getD 0 0) ++ be 4 (t.limits.getD 1 0) ++ be 4 (t.limits.getD 2 0)
    ++ be 4 (t.limits.getD 3 0) ++ be 1 t.restMask ++ scheduleBytes t.working ++ scheduleBytes t.rest

/-- The table a selector of READ TARIFF names: ACTIVE 1, STAGED 2 (R170, R198). -/
def TariffStore.selected (t : TariffStore) : Nat → Option TariffTable
  | 1 => some t.active
  | 2 => t.staged
  | _ => Option.none

/-- READ TARIFF served (R170). -/
def State.serveReadTariff (s : State) (selector : Nat) : State × Reply :=
  if selector ≠ 1 ∧ selector ≠ 2 then s.answer .param
  else
    match s.tariff.selected selector with
    | Option.none => s.answer .noRecord
    | some table =>
      (s, Reply.served .done
        (be 1 (yesNo s.tariff.locked) ++ be 1 (yesNo s.tariff.staged.isSome) ++ table.bytes))

/-- READ_TARIFF (R170). -/
def execReadTariff (selector : Nat) (s : State) : Host.Outcome State Fault Refusal :=
  .next (s.lineRequest fun t => t.serveReadTariff selector)

end Sys2Proof.Machine
end

