-- ==== Sys2Proof/Machine/Meter.lean ====
section
/-! DEFINITION. Demand Metering and Curtailment (chapter 7): the metering tick and its steps, the interval close, the period
close, the projection, and the commands METERING_TICK, DAY_ROLLOVER, INTERVAL_CLOSE, CURTAILMENT_EXPIRY, SET_CLOCK,
READ_METER, READ_PERIOD, CLOSE_PERIOD, CURTAIL and CANCEL_CURTAIL. -/

namespace Sys2Proof.Machine

/-- The Demand Meter written. -/
def State.withMeter (s : State) (m : DemandMeter) : State :=
  { s with meter := m }

/-! ### Steps 1 to 5 of a tick (R136 to R141) -/

/-- The line-seconds value after the next advance (R134). -/
def State.nextSecond (s : State) : Nat :=
  later s.now 1

/-- The line-seconds value advances, and the parameters of this advance are noted (R134, R136 step 1). -/
def State.advanced (s : State) : State :=
  s.withMeter { s.meter with lineSeconds := s.nextSecond, atAdvance := s.params }

/-- A curtailment whose end stamp the line-seconds value has reached is removed (R136 step 2, R157). -/
def DemandMeter.curtailmentExpired (m : DemandMeter) : DemandMeter :=
  match m.curtailment with
  | some c => if c.endStamp = m.lineSeconds then { m with curtailment := Option.none } else m
  | Option.none => m

/-- V_line (R137). -/
def State.lineVoltage (s : State) : Nat :=
  s.pots.sumV + (s.pots.nOut * s.params.rBypass + s.params.rBus) * s.iMeas / 100000

/-- P (R138). -/
def State.linePower (s : State) : Nat :=
  s.lineVoltage * s.iMeas / 100000

/-- A band's energy after the power of a second: whole multiples of 3,600 kWs are carried into the kWh total, which counts
modulo 4,294,967,296 (R141). -/
def BandEnergy.credited (b : BandEnergy) (power : Nat) : BandEnergy :=
  ⟨(b.kwh + (b.residue + power) / 3600) % 4294967296, (b.residue + power) % 3600⟩

/-- The band energy of a band 1 to 4. -/
def PeriodFigures.band (f : PeriodFigures) (band : Nat) : BandEnergy :=
  tget ⟨0, 0⟩ f.bands band

/-- The power of the second credited to the interval in progress and to its band (R136 step 5, R140, R141). -/
def DemandMeter.credited (m : DemandMeter) (vLine power : Nat) : DemandMeter :=
  { m with
    vLine := vLine, power := power
    interval := { m.interval with energy := m.interval.energy + power, elapsed := m.interval.elapsed + 1 }
    period := { m.period with
      bands := tput m.period.bands m.interval.band ((m.period.band m.interval.band).credited power) } }

/-- Steps 2 to 5 of a tick: the curtailment, SHED, V_line and P, and the energy (R136). -/
def State.metered (s : State) (shed : Bool) : State :=
  s.withMeter ({ s.meter.curtailmentExpired with shed := shed }.credited s.lineVoltage s.linePower)

/-! ### Step 6: the calendar (R135, R41) -/

/-- The tick is a day rollover (R135). -/
def State.rollsOver (s : State) : Bool :=
  daySeconds ≤ s.meter.timeOfDay + 1

/-- AE count today and AE seconds today cleared in every record (R41). -/
def State.clearDailyCounts (s : State) : State :=
  { s with pots := { s.pots with table := s.pots.table.mapIdx fun _ r => { r with aeCount := 0, aeSeconds := 0 } } }

/-- The calendar moved on by one second, with a day rollover where it is due (R135). -/
def State.calendarMoved (s : State) : State :=
  if s.rollsOver then
    (s.withMeter { s.meter with
      timeOfDay := 0, dayOfWeek := (s.meter.dayOfWeek + 1) % 7, dayCount := (s.meter.dayCount + 1) % 65536 }).clearDailyCounts
  else s.withMeter { s.meter with timeOfDay := s.meter.timeOfDay + 1 }

/-! ### Step 7: the close of an interval (R139, R142 to R147) -/

/-- The demand of a closing interval (R142): 0 where its duration is 0. -/
def intervalDemand (energy duration : Nat) : Nat :=
  if duration = 0 then 0 else energy / duration

/-- An interval is counted where its duration is at least L / 2, with L of the active table (R142). -/
def State.counts (s : State) (duration : Nat) : Bool :=
  s.tariff.active.length / 2 ≤ duration

/-- The period figures after a closed interval, at its end's day count and time of day (R144). -/
def PeriodFigures.closing (f : PeriodFigures) (demand : Nat) (counted : Bool) (day time : Nat) : PeriodFigures :=
  if counted then
    if f.maximum < demand then
      { f with counted := saturate 65535 (f.counted + 1), maximum := demand, maximumDay := day, maximumTime := time }
    else { f with counted := saturate 65535 (f.counted + 1) }
  else { f with uncounted := saturate 65535 (f.uncounted + 1) }

/-- Steps 1 to 3 of a close, for an interval of a given duration (R142 to R145). -/
def State.intervalClosed (s : State) (duration : Nat) : State :=
  let m := s.meter
  let demand := intervalDemand m.interval.energy duration
  let counted := s.counts duration
  (s.withMeter { m with
    period := m.period.closing demand counted m.dayCount m.timeOfDay
    previous := ⟨demand, duration, m.interval.band, counted⟩ }).raise .intervalClosed 0

/-- A pending period close applied (R147). -/
def State.periodClosed (s : State) : State :=
  if s.meter.pendingClose then
    { s with
      meter := { s.meter with
        closed := ⟨s.meter.period, s.meter.dayCount, s.meter.timeOfDay⟩, period := PeriodFigures.empty
        pendingClose := false }
      tariff := { s.tariff with locked := false } }
  else s

/-- The interval that begins at the present time of day under the active table (R139, R163). -/
def State.newInterval (s : State) : Interval :=
  let t := s.tariff.active
  let band := t.bandAt s.meter.timeOfDay s.meter.dayOfWeek
  { start := s.meter.timeOfDay, planned := t.length - s.meter.timeOfDay % t.length, elapsed := 0, energy := 0
    band := band, limit := t.limitOf band }

/-- The next interval begun (R139). -/
def State.beginInterval (s : State) : State :=
  s.withMeter { s.meter with interval := s.newInterval }

/-- The staged table applied where the boundary suits it (R145 step 5, R168). -/
def State.tariffApplied (s : State) : State :=
  { s with tariff := s.tariff.applied s.meter.timeOfDay }

/-- A close by a tick (R145). -/
def State.closeByTick (s : State) : State :=
  (((s.intervalClosed s.meter.interval.planned).periodClosed).tariffApplied).beginInterval

/-! ### Step 7: the projection (R151 to R154) -/

/-- D_lim: the least of the band limit, an active curtailment and, with SHED sampled asserted, the shed limit (R151). -/
def State.demandLimit (s : State) : Nat :=
  let m := s.meter
  let curtailed :=
    match m.curtailment with
    | some c => min m.interval.limit c.limit
    | Option.none => m.interval.limit
  if m.shed then min curtailed s.params.shedLimit else curtailed

/-- t_rem (R152). -/
def Interval.remaining (i : Interval) : Nat :=
  i.planned - i.elapsed

/-- D_proj (R152). -/
def DemandMeter.projected (m : DemandMeter) : Nat :=
  (m.interval.energy + m.power * m.interval.remaining) / m.interval.planned

/-- E_allow, signed (R153 step 1). -/
def DemandMeter.allowedEnergy (m : DemandMeter) (dLim : Nat) : Int :=
  (dLim * m.interval.planned : Int) - m.interval.energy

/-- I_dlim of a LIMITING governor (R153). -/
def DemandMeter.limitedCurrent (m : DemandMeter) (dLim : Nat) : Nat :=
  if m.allowedEnergy dLim ≤ 0 then 0
  else if m.vLine = 0 then topCurrent
  else min topCurrent ((m.allowedEnergy dLim).toNat / m.interval.remaining * 100000 / m.vLine)

/-- The governor after a projection (R152 to R154). -/
def DemandMeter.governed (m : DemandMeter) (dLim : Nat) : Governor :=
  if m.projected ≤ dLim then ⟨.off, m.projected, dLim, topCurrent⟩
  else ⟨.limiting, m.projected, dLim, m.limitedCurrent dLim⟩

/-- The projection of a tick that does not close: the governor is set, and DEMAND LIMITING is raised where it moves from
OFF to LIMITING (R152, R154). -/
def State.project (s : State) : State :=
  let g := s.meter.governed s.demandLimit
  let t := s.withMeter { s.meter with governor := g }
  if s.meter.governor.state = .off ∧ g.state = .limiting then t.raise .demandLimiting 0 else t

/-- Step 7 of a tick (R136). -/
def State.closeOrProject (s : State) : State :=
  if s.meter.interval.elapsed = s.meter.interval.planned then s.closeByTick else s.project

/-! ### The tick (R136) and the events inside it -/

/-- A metering tick, one event in the order of R136. DESIGN CHOICE: the tick is whole, so a timer examination falls after
all its steps; R134 lets it fall also between the advance and the rest of the tick (notes/assumptions/28). -/
def State.tick (s : State) (shed : Bool) : State :=
  (((s.advanced).metered shed).calendarMoved).closeOrProject

/-- METERING_TICK (R136). -/
def execMeteringTick (shed : Bool) (s : State) : Host.Outcome State Fault Refusal :=
  .next (s.tick shed)

/-- The next tick closes the interval in progress (R136 step 7). -/
def State.closesNext (s : State) : Bool :=
  s.meter.interval.elapsed + 1 == s.meter.interval.planned

/-- The next tick removes the curtailment (R157). -/
def State.curtailmentEndsNext (s : State) : Bool :=
  match s.meter.curtailment with
  | some c => c.endStamp == s.nextSecond
  | Option.none => false

/-- DAY_ROLLOVER (R135): it takes place as part of a metering tick, so the command is the tick at which it is due; at any
other time there is no such event. DEDUCED: notes/assumptions/4. -/
def execDayRollover (shed : Bool) (s : State) : Host.Outcome State Fault Refusal :=
  .next (if s.rollsOver then s.tick shed else s)

/-- INTERVAL_CLOSE (R145): it is step 7 of a metering tick, so the command is the tick that closes the interval.
DEDUCED: notes/assumptions/4. -/
def execIntervalClose (shed : Bool) (s : State) : Host.Outcome State Fault Refusal :=
  .next (if s.closesNext then s.tick shed else s)

/-- CURTAILMENT_EXPIRY (R157): it is step 2 of a metering tick, so the command is the tick whose new line-seconds value is
the end stamp. DEDUCED: notes/assumptions/4. -/
def execCurtailmentExpiry (shed : Bool) (s : State) : Host.Outcome State Fault Refusal :=
  .next (if s.curtailmentEndsNext then s.tick shed else s)

/-! ### SET CLOCK (R149) -/

/-- The time of day and the day of week written. -/
def State.withClock (s : State) (time day : Nat) : State :=
  s.withMeter { s.meter with timeOfDay := time, dayOfWeek := day }

/-- SET CLOCK served (R149). -/
def State.serveSetClock (s : State) (time day : Nat) : State × Reply :=
  if daySeconds ≤ time ∨ 7 ≤ day then s.answer .param
  else ((((s.intervalClosed s.meter.interval.elapsed).periodClosed).withClock time day).beginInterval).answer .done

/-- SET_CLOCK (R149). -/
def execSetClock (timeOfDay dayOfWeek : Nat) (s : State) : Host.Outcome State Fault Refusal :=
  .next (s.lineRequest fun t => t.serveSetClock timeOfDay dayOfWeek)

/-! ### Periods and curtailment (R146, R156, R157) -/

/-- CLOSE PERIOD served (R146). -/
def State.serveClosePeriod (s : State) : State × Reply :=
  (s.withMeter { s.meter with pendingClose := true }).answer .done

/-- CLOSE_PERIOD (R146). -/
def execClosePeriod (s : State) : Host.Outcome State Fault Refusal :=
  .next (s.lineRequest fun t => t.serveClosePeriod)

/-- CURTAIL served (R156). -/
def State.serveCurtail (s : State) (limit minutes : Nat) : State × Reply :=
  if topLimit < limit ∨ minutes = 0 ∨ 1440 < minutes then s.answer .param
  else
    (s.withMeter { s.meter with curtailment := some ⟨limit, later s.now (minutes * 60)⟩ }).answer .done

/-- CURTAIL (R156). -/
def execCurtail (limit minutes : Nat) (s : State) : Host.Outcome State Fault Refusal :=
  .next (s.lineRequest fun t => t.serveCurtail limit minutes)

/-- CANCEL CURTAIL served (R157). -/
def State.serveCancelCurtail (s : State) : State × Reply :=
  if s.meter.curtailment.isSome then (s.withMeter { s.meter with curtailment := Option.none }).answer .done
  else s.answer .late

/-- CANCEL_CURTAIL (R157). -/
def execCancelCurtail (s : State) : Host.Outcome State Fault Refusal :=
  .next (s.lineRequest fun t => t.serveCancelCurtail)

/-! ### Reading (R148, R159, R198) -/

/-- The curtailment in READ METER: active, limit, seconds left to the end stamp (R159, R198). -/
def State.curtailmentBytes (s : State) : List Byte :=
  match s.meter.curtailment with
  | some c => be 1 1 ++ be 4 c.limit ++ be 4 (age c.endStamp s.now)
  | Option.none => be 1 0 ++ be 4 0 ++ be 4 0

/-- The 69 bytes of the READ METER reply (R159, R198). -/
def State.meterImage (s : State) : List Byte :=
  let m := s.meter
  be 4 m.lineSeconds ++ be 4 m.timeOfDay ++ be 1 m.dayOfWeek ++ be 2 m.dayCount
    ++ be 4 m.interval.start ++ be 2 m.interval.planned ++ be 2 m.interval.elapsed ++ be 8 m.interval.energy
    ++ be 1 m.interval.band ++ be 4 m.interval.limit
    ++ be 4 m.previous.demand ++ be 2 m.previous.duration ++ be 1 m.previous.band ++ be 1 (yesNo m.previous.counted)
    ++ be 4 m.vLine ++ be 4 m.power
    ++ be 1 m.governor.state.code ++ be 4 m.governor.dProj ++ be 4 m.governor.dLim ++ be 2 m.governor.iDlim
    ++ s.curtailmentBytes ++ be 1 (yesNo m.shed)

/-- READ METER served (R159). -/
def State.serveReadMeter (s : State) : State × Reply :=
  (s, Reply.served .done s.meterImage)

/-- READ_METER (R159). -/
def execReadMeter (s : State) : Host.Outcome State Fault Refusal :=
  .next (s.lineRequest fun t => t.serveReadMeter)

/-- The figures of a period as READ PERIOD sends them, 38 bytes (R198). -/
def PeriodFigures.bytes (f : PeriodFigures) : List Byte :=
  [1, 2, 3, 4].flatMap (fun b => be 4 (f.band b).kwh ++ be 2 (f.band b).residue)
    ++ be 4 f.maximum ++ be 2 f.maximumDay ++ be 4 f.maximumTime ++ be 2 f.counted ++ be 2 f.uncounted

/-- The 83 bytes of the READ PERIOD reply (R148, R198). -/
def State.periodImage (s : State) : List Byte :=
  be 1 (yesNo s.meter.pendingClose) ++ s.meter.period.bytes
    ++ s.meter.closed.figures.bytes ++ be 2 s.meter.closed.closeDay ++ be 4 s.meter.closed.closeTime

/-- READ PERIOD served (R148). -/
def State.serveReadPeriod (s : State) : State × Reply :=
  (s, Reply.served .done s.periodImage)

/-- READ_PERIOD (R148). -/
def execReadPeriod (s : State) : Host.Outcome State Fault Refusal :=
  .next (s.lineRequest fun t => t.serveReadPeriod)

end Sys2Proof.Machine
end

