-- ==== Sys2Proof/Machine/PollRing.lean ====
section
/-! DEFINITION. Field Link (chapter 10): the walk of the poll ring, the turn, and the commands TURN, IDLE_TIME, MISS,
FIELD_FRAME_GAP, FIELD_FRAME_REFUSED, PASS, ADD_NODE, DROP_NODE and READ_NODES. -/

namespace Sys2Proof.Machine

/-- The Field Link Controller written. -/
def State.withField (s : State) (f : FieldLink) : State :=
  { s with field := f }

/-! ### The walk (R185) -/

/-- The walk gives a turn to the entry: it is ACTIVE, or ABSENT with pass counter 15 (R185). -/
def RingEntry.turnDue (e : RingEntry) : Bool :=
  e.presence == .active || 15 ≤ e.passCounter

/-- An ABSENT entry that the walk passes over (R185). -/
def RingEntry.skipped (e : RingEntry) : RingEntry :=
  { e with passCounter := e.passCounter + 1 }

/-- Entries passed over until one that is due a turn, with that one's index if there is one (R185). -/
def skipRun : List RingEntry → List RingEntry × Option Nat
  | [] => ([], Option.none)
  | e :: rest =>
    if e.turnDue then (e :: rest, some 0)
    else (e.skipped :: (skipRun rest).1, (skipRun rest).2.map (· + 1))

/-- The same from an index of the ring on. -/
def skipFrom (ring : List RingEntry) (index : Nat) : List RingEntry × Option Nat :=
  let run := skipRun (ring.drop index)
  (ring.take index ++ run.1, run.2.map (· + index))

/-- A pass without a turn has ended: the idle time runs, and the next pass will begin at the first entry (R185). -/
def FieldLink.rest (f : FieldLink) (ring : List RingEntry) : FieldLink :=
  { f with ring := ring, walk := some 0, passGave := false, idle := true }

/-- The walk goes on from its position to the next entry that is due a turn. A pass that has given a turn is followed at
once by the next one, a pass that has given none by the idle time (R185). -/
def FieldLink.seek (f : FieldLink) : FieldLink :=
  match f.walk with
  | Option.none => f
  | some index =>
    let here := skipFrom f.ring index
    match here.2 with
    | some k => { f with ring := here.1, walk := some k }
    | Option.none =>
      if f.passGave then
        let next := skipFrom here.1 0
        match next.2 with
        | some k => { f with ring := next.1, walk := some k, passGave := false }
        | Option.none => f.rest next.1
      else f.rest here.1

/-- The walk position moved to the next entry; after the last one a new pass begins at the first (R185). -/
def FieldLink.walkOn (f : FieldLink) : FieldLink :=
  match f.walk with
  | some index =>
    if index + 1 < f.ring.length then { f with walk := some (index + 1) }
    else { f with walk := some 0, passGave := false }
  | Option.none => f

/-- The turn in progress ends: the walk position moves on from the entry that held it. Where DROP NODE removed that entry
the walk position is already the entry that followed it (R183, R185). -/
def FieldLink.turnEnded (f : FieldLink) : FieldLink :=
  match f.turn with
  | some t =>
    let g := if t.entryStands then f.walkOn else f
    { g with turn := Option.none, reply := Option.none }
  | Option.none => f

/-- The last character of a turn's reply has been sent, where one is being sent: FLDE is negated and the turn ends (10.4,
R180, R186). No row of the table is this event: it is what a step does while no command waits. DESIGN CHOICE:
notes/assumptions/5. -/
def State.replyEnded (s : State) : State :=
  if s.field.reply.isSome then s.withField s.field.turnEnded else s

/-! ### TURN, IDLE_TIME and MISS (R185, R186) -/

/-- A turn given to the entry at the walk position: its turn character is sent at the speed now in force (R130, R180) and
the response window runs. An ABSENT entry's pass counter becomes 0 (R185). -/
def FieldLink.give (f : FieldLink) (speed : Nat) : FieldLink :=
  match f.walk.bind (fun index => (f.ring[index]?).map (index, ·)) with
  | some (index, e) =>
    { f with
      ring := changeEntry f.ring index fun e => { e with passCounter := 0 }
      turn := some ⟨e.address, e.kind, true, .await⟩, passGave := true, speed := speed, reply := Option.none }
  | Option.none => f

/-- TURN served: the reply of the turn before, if it was still being sent, has ended, the walk goes on, and the next turn is
given unless the pass has ended without one (R185, R186, R190). -/
def FieldLink.nextTurn (f : FieldLink) (speed : Nat) : FieldLink :=
  let g := f.turnEnded.seek
  if g.idle then g else g.give speed

/-- TURN (R186). While a response window or an idle time runs no turn is given: the Controller holds one turn at a time. -/
def execTurn (s : State) : Host.Outcome State Fault Refusal :=
  .next
    (if s.field.awaited.isSome || s.field.idle then s
    else s.withField (s.field.nextTurn s.params.fieldSpeed))

/-- IDLE_TIME (R185): the idle time runs out and the next pass begins. -/
def execIdleTime (s : State) : Host.Outcome State Fault Refusal :=
  .next
    (if s.field.idle then s.withField (FieldLink.seek { s.field with idle := false, passGave := false }) else s)

/-- The third miss in a row of an ACTIVE entry (R186). -/
def RingEntry.missesOut (e : RingEntry) : Bool :=
  e.presence == .active && 3 ≤ e.misses + 1

/-- An entry after a miss (R186). -/
def RingEntry.missed (e : RingEntry) : RingEntry :=
  if e.presence = .absent then e
  else if e.missesOut then { e with presence := .absent, misses := 3, passCounter := 0 }
  else { e with misses := e.misses + 1 }

/-- The entry that holds the turn, where it still stands in the ring. -/
def FieldLink.holder (f : FieldLink) : Option RingEntry :=
  match f.turn, f.walk with
  | some t, some index => if t.entryStands then f.ring[index]? else Option.none
  | _, _ => Option.none

/-- A miss counted in the entry that holds the turn, if it still stands, and the turn ended (R183, R186). -/
def State.countMiss (s : State) : State :=
  let t := s.withField (s.field.changeHolder RingEntry.missed).turnEnded
  match s.field.holder with
  | some e => if e.missesOut then t.raise .nodeAbsent e.address else t
  | Option.none => t

/-- MISS (R186): the response window runs out. -/
def execMiss (s : State) : Host.Outcome State Fault Refusal :=
  .next (if s.field.awaited.isSome then s.countMiss else s)

/-! ### Frames that are no request, and PASS (R187, R188, R190) -/

/-- FIELD_FRAME_GAP (R187 step 2): no reply, the node answered, and the turn ends. -/
def execFieldFrameGap (s : State) : Host.Outcome State Fault Refusal :=
  .next
    (if s.field.awaited.isSome then s.nodeAnswered.withField s.nodeAnswered.field.turnEnded else s)

/-- FIELD_FRAME_REFUSED (R187): a frame whose link status is not OK is answered with it. A frame that is judged OK is no
refused frame, and is taken as its request's own command. -/
def execFieldFrameRefused (frame : List FieldChar) (s : State) : Host.Outcome State Fault Refusal :=
  .next
    (match s.field.awaited with
    | some t =>
      let link := (judgeField t.kind frame).1
      if link = .ok then s else s.nodeAnswered.sendFieldReply (Reply.notTaken link)
    | Option.none => s)

/-- PASS (R190): answered DONE from either kind. -/
def execPass (s : State) : Host.Outcome State Fault Refusal :=
  .next (s.fieldRequest [.potNode, .unitNode] fun _ t => t.answer .done)

/-! ### The poll ring (R182 to R184) -/

/-- The status of an ADD NODE (R182). -/
def State.addNodeStatus (s : State) (address kind : Nat) : ReqStatus :=
  if !isNode address ∨ (kindOf kind).isNone then .param
  else if topNode ≤ s.field.ring.length then .full
  else if s.field.ring.any (fun e => e.address == address) then .busy
  else .done

/-- A new entry at the end of the ring; it becomes the walk position of an empty ring (R182). -/
def FieldLink.add (f : FieldLink) (address : Nat) (kind : NodeKind) : FieldLink :=
  { f with
    ring := f.ring ++ [⟨address, kind, .active, 0, 0⟩]
    walk := if f.ring = [] then some 0 else f.walk }

/-- ADD NODE served (R182). -/
def State.serveAddNode (s : State) (address kind : Nat) : State × Reply :=
  match s.addNodeStatus address kind, kindOf kind with
  | .done, some k => (s.withField (s.field.add address k)).answer .done
  | status, _ => s.answer status

/-- ADD_NODE (R182). -/
def execAddNode (address kind : Nat) (s : State) : Host.Outcome State Fault Refusal :=
  .next (s.lineRequest fun t => t.serveAddNode address kind)

/-- The index of an address in the ring. -/
def FieldLink.indexOf (f : FieldLink) (address : Nat) : Option Nat :=
  f.ring.findIdx? fun e => e.address == address

/-- The entry at an index removed (R183). The walk position becomes the entry that followed a dropped walk position, or the
first entry, starting a new pass, where it was the last; a turn the entry holds runs to its end without it. -/
def FieldLink.drop (f : FieldLink) (index : Nat) : FieldLink :=
  let ring := f.ring.eraseIdx index
  let atWalk : Bool := f.walk == some index
  let wraps : Bool := atWalk && ring.length ≤ index
  { f with
    ring := ring
    walk :=
      if ring = [] then Option.none
      else if wraps then some 0
      else f.walk.map fun w => if index < w then w - 1 else w
    passGave := f.passGave && !wraps
    idle := f.idle && !ring.isEmpty
    turn := if atWalk then f.turn.map fun t => { t with entryStands := false } else f.turn }

/-- DROP NODE served (R183). -/
def State.serveDropNode (s : State) (address : Nat) : State × Reply :=
  if !isNode address then s.answer .param
  else
    match s.field.indexOf address with
    | Option.none => s.answer .noRecord
    | some index => (s.withField (s.field.drop index)).answer .done

/-- DROP_NODE (R183). -/
def execDropNode (address : Nat) (s : State) : Host.Outcome State Fault Refusal :=
  .next (s.lineRequest fun t => t.serveDropNode address)

/-- The 3 bytes of a ring entry in READ NODES (R198). -/
def RingEntry.bytes (e : RingEntry) : List Byte :=
  be 1 e.address ++ be 1 (kindCode e.kind * 16 + e.presence.code) ++ be 1 (e.misses * 16 + e.passCounter)

/-- FLDE, the field link driver enable: asserted while the part transmits (R180). Between commands it transmits where the
reply of a turn is being sent. -/
def FieldLink.flde (f : FieldLink) : Bool :=
  f.reply.isSome

/-- The address of the node holding the turn in progress, or 0 (R184). -/
def FieldLink.turnAddress (f : FieldLink) : Nat :=
  match f.turn with
  | some t => t.address
  | Option.none => 0

/-- The bytes of the READ NODES reply (R184, R198). -/
def FieldLink.image (f : FieldLink) : List Byte :=
  be 1 f.ring.length ++ be 1 f.turnAddress ++ f.ring.flatMap RingEntry.bytes

/-- READ NODES served (R184). -/
def State.serveReadNodes (s : State) : State × Reply :=
  (s, Reply.served .done s.field.image)

/-- READ_NODES (R184). -/
def execReadNodes (s : State) : Host.Outcome State Fault Refusal :=
  .next (s.lineRequest fun t => t.serveReadNodes)

end Sys2Proof.Machine
end

