-- ==== Sys2Proof/Machine/Port.lean ====
section
/-! DEFINITION. Line Master Port (chapter 11): the commands LM_BREAK, LM_FRAME_GAP, LM_FRAME_REFUSED, RANGE_FRAME_NEXT,
LMRX_IDLE_RETURN and LM_REPLY_END; and RESET (R133). -/

namespace Sys2Proof.Machine

/-- RESET: every field takes its reset value, the commands that wait stay waiting (R3, R133, R160). -/
def execReset (s : State) : Host.Outcome State Fault Refusal :=
  .next { State.reset with pending := s.pending }

/-- The Line Master Port written. -/
def State.withPort (s : State) (p : LinePort) : State :=
  { s with port := p }

/-- LMTX is held at the idle level: no reply is being sent (R191). -/
def LinePort.lmtxIdle (p : LinePort) : Bool :=
  p.reply.isNone

/-- LM_BREAK (R193, R196): the load in progress is abandoned, no further frame of a multi-frame reply is sent, and the
receiver takes no character until the idle level returns. The frame being sent is completed. -/
def execLmBreak (s : State) : Host.Outcome State Fault Refusal :=
  .next (s.abandonLoad.withPort { s.port with due := [], waitIdle := true })

/-- LM_FRAME_GAP (R192): the frame is abandoned without a reply and the receiver is idle again, as it was before the
frame's first character. -/
def execLmFrameGap (s : State) : Host.Outcome State Fault Refusal :=
  .next s

/-- LM_FRAME_REFUSED (R192): a frame whose link status is not OK is answered with it and changes nothing else; a load in
progress stands. A frame that is judged OK is no refused frame, and is taken as its request's own command. -/
def execLmFrameRefused (frame : List PortChar) (s : State) : Host.Outcome State Fault Refusal :=
  .next
    (if s.port.takes ∧ (judgePort frame).1 ≠ .ok then s.sendFrames (Reply.notTaken (judgePort frame).1) [] else s)

/-- RANGE_FRAME_NEXT (R196): the next captured frame is begun. -/
def execRangeFrameNext (s : State) : Host.Outcome State Fault Refusal :=
  .next
    (match s.port.due with
    | next :: rest => s.sendFrames next rest
    | [] => s)

/-- LMRX_IDLE_RETURN (R193): the receiver takes characters again. -/
def execLmrxIdleReturn (s : State) : Host.Outcome State Fault Refusal :=
  .next (s.withPort { s.port with waitIdle := false })

/-- LM_REPLY_END (R194): after the last character of the reply's last frame the receiver is idle, and a line master speed
that was set is in force (R130). -/
def execLmReplyEnd (s : State) : Host.Outcome State Fault Refusal :=
  .next
    (if s.port.reply.isSome ∧ s.port.due = [] then
      s.withPort { s.port with reply := Option.none, speed := s.params.portSpeed }
    else s)

end Sys2Proof.Machine
end

