-- ==== Sys2Proof/Machine/AnodeEffect.lean ====
section
/-! DEFINITION. Anode Effect Watch (chapter 2): the decision on an examined report, and the commands ESCALATION and
START_HOLD_EXPIRY. -/

namespace Sys2Proof.Machine

/-- A confirmed anode effect: WAITING, QUENCHING or SETTLING. -/
def AeState.confirmed : AeState → Bool
  | .waiting | .quenching | .settling => true
  | _ => false

/-- A switch record of a confirmed pot removed with AE_CANCELLED (R33 step 3, R34). -/
def State.cancelByEffect (s : State) (p : Nat) : State :=
  if (s.pot p).switch.isSome then s.endSwitch p .aeCancelled else s

/-- A confirmation (R33). -/
def State.confirmEffect (s : State) (p : Nat) : State :=
  let r := s.pot p
  let waiting := s.putPot p
    { r with ae := .waiting, aeCount := saturate 255 (r.aeCount + 1), confirmStamp := some s.now }
  (((waiting.cancelByEffect p).enterQuenchQueue p).raise .aeConfirmed p).grantEvaluation

/-- The pot's claim on the Quench Arbiter released according to the state its anode effect ends from (R36 step 1). -/
def State.releaseClaim (s : State) (p : Nat) : State :=
  match (s.pot p).ae with
  | .waiting => s.leaveQuenchQueue p
  | .quenching => ((s.freeSlotOf p).putPot p { s.pot p with slot := Option.none }).grantEvaluation
  | .settling => s.putPot p { s.pot p with settleStamp := Option.none }
  | _ => s

/-- The end of an anode effect (R36). -/
def State.endEffect (s : State) (p : Nat) : State :=
  let t := s.releaseClaim p
  let r := t.pot p
  t.putPot p
    { r with
      aeSeconds := saturate 65535 (r.aeSeconds + t.startAge p), ae := .none, aeClass := .normal
      startStamp := Option.none, confirmStamp := Option.none }

/-- The voltage just stored for a record is examined (R29, R30, R32, R35). A start hold that has run out holds nothing,
and its field is gone once a SUSPECT starts (R31). -/
def State.examineReport (s : State) (p : Nat) : State :=
  let r := s.pot p
  match r.ae with
  | .none =>
    if r.holdRuns s.now then s
    else if s.params.vAe ≤ r.voltage then
      s.putPot p
        { r with ae := .suspect, aeClass := .normal, startStamp := some s.now, startHoldEnd := Option.none }
    else s
  | .suspect =>
    if r.voltage < s.params.vAe then s.putPot p { r with ae := .none, startStamp := Option.none }
    else if s.startAge p < s.params.tConfirm then s
    else s.confirmEffect p
  | .waiting | .quenching | .settling => if r.voltage < s.params.vAeEnd then s.endEffect p else s

/-- The record is to be escalated at the latest advance (R37): confirmed before this line-second (R33), NORMAL, and of
age T_esc. -/
def State.escalationDue (s : State) (p : Nat) : Bool :=
  let r := s.pot p
  r.ae.confirmed && r.aeClass == .normal && r.confirmStamp != some s.now
    && r.startStamp.isSome && s.meter.atAdvance.tEsc ≤ s.startAge p

/-- An escalation (R37). -/
def State.escalate (s : State) (p : Nat) : State :=
  let t := (s.putPot p { s.pot p with aeClass := .escalated }).raise .aeEscalated p
  if (s.pot p).ae = .waiting then ((t.leaveQuenchQueue p).enterQuenchQueue p).grantEvaluation else t

/-- ESCALATION (R37): the examination of one record. -/
def execEscalation (position : Nat) (s : State) : Host.Outcome State Fault Refusal :=
  .next (if s.escalationDue position then s.escalate position else s)

/-- START_HOLD_EXPIRY (R31): the examination of one record: a start hold that has run out is removed. -/
def execStartHoldExpiry (position : Nat) (s : State) : Host.Outcome State Fault Refusal :=
  .next
    (let r := s.pot position
    if r.startHoldEnd.isSome ∧ !r.holdRuns s.now then s.putPot position { r with startHoldEnd := Option.none } else s)

end Sys2Proof.Machine
end

