-- ==== Sys2Proof/Machine/PotTable.lean ====
section
/-! DEFINITION. The Pot Register (chapter 1): POT_REPORT intake with its reply, POT_SILENCE, and the commands ADMIT_POT,
RETIRE_POT, ASSIGN_OWNER, READ_POT and READ_POT_RANGE. -/

namespace Sys2Proof.Machine

/-! ### Report intake (R14 to R17) -/

/-- The pseudo-resistance of an IN pot that reports a voltage (R17). -/
def State.reportedResistance (s : State) (r : PotRecord) (voltage : Nat) : Nat :=
  if s.iMeas < s.params.iRmin then r.resistance
  else if voltage ≤ s.params.e0 then 0
  else min 1000000 ((voltage - s.params.e0) * 100000 / s.iMeas)

/-- The record after steps 1 to 3 of R15. -/
def State.reportedRecord (s : State) (r : PotRecord) (voltage : Nat) : PotRecord :=
  { r with
    voltage := voltage, reportStamp := s.now, silent := false
    resistance := if r.circuit = .inCircuit then s.reportedResistance r voltage else r.resistance }

/-- An accepted report (R15). -/
def State.acceptReport (s : State) (p voltage : Nat) : State :=
  let r := s.pot p
  let stored := s.putPot p (s.reportedRecord r voltage)
  if r.circuit = .inCircuit ∧ s.current.mode ≠ .adopt then stored.examineReport p else stored

/-- One item of a POT REPORT frame (R14). -/
def State.takeItem (s : State) (node : Nat) (i : ReportItem) : State × ReqStatus :=
  let status := s.identity (some node) i.position i.tag
  (if status = .done then s.acceptReport i.position i.voltage else s, status)

/-- The items of a frame in their order, with their statuses (R14). -/
def State.takeItems (node : Nat) : List ReportItem → State → State × List ReqStatus
  | [], s => (s, [])
  | i :: rest, s =>
    let first := s.takeItem node i
    let others := State.takeItems node rest first.1
    (others.1, first.2 :: others.2)

/-- The frame's request status: DONE if an item was accepted, otherwise the status of the first item (R14). -/
def frameStatus (statuses : List ReqStatus) : ReqStatus :=
  if statuses.contains .done then .done else statuses.headD .done

/-- The reply fields of one item (R16, R198). -/
def State.itemBytes (s : State) (i : ReportItem) (status : ReqStatus) : List Byte :=
  let r := s.pot i.position
  be 2 i.position ++ be 1 status.code ++
    if status = .done then
      be 1 r.circuit.code ++ be 1 r.ae.code ++ be 2 (s.slotOrPlace i.position) ++ be 1 r.phaseCode
        ++ be 1 r.lastSwitch.code
    else be 1 0 ++ be 1 0 ++ be 2 0 ++ be 1 0 ++ be 1 0

/-- A POT REPORT served for the node that holds the turn (R14, R16). -/
def State.servePotReport (s : State) (node : Nat) (items : List ReportItem) : State × Reply :=
  let taken := State.takeItems node items s
  let t := taken.1
  let itemPayload := (items.zip taken.2).flatMap fun x => t.itemBytes x.1 x.2
  (t, Reply.served (frameStatus taken.2) (be 2 t.iMeas ++ currentBytes t.current.setpoint ++ itemPayload))

/-- POT_REPORT (R14 to R16). -/
def execPotReport (items : List ReportItem) (s : State) : Host.Outcome State Fault Refusal :=
  .next (s.fieldRequest [.potNode] fun node t => t.servePotReport node items)

/-- The record becomes silent at the latest advance (R19). -/
def State.potSilenceDue (s : State) (p : Nat) : Bool :=
  let r := s.pot p
  r.circuit != .vacant && !r.silent && s.meter.atAdvance.tPotSilent < age s.now r.reportStamp

/-- POT_SILENCE (R19): the examination of one record's report age. -/
def execPotSilence (position : Nat) (s : State) : Host.Outcome State Fault Refusal :=
  .next
    (if s.potSilenceDue position then
      (s.putPot position { s.pot position with silent := true }).raise .potSilent position
    else s)

/-! ### Admission, retirement and ownership (R6 to R11) -/

/-- The status of an ADMIT POT (R8). -/
def State.admitStatus (s : State) (position tag owner initial : Nat) : ReqStatus :=
  if !isPosition position then .noRecord
  else if (s.pot position).circuit ≠ .vacant then .state
  else if tag = 0 ∨ tag = (s.pot position).tag ∨ !isNode owner ∨ (initialOf initial).isNone then .param
  else if initialOf initial = some .inCircuit ∧ s.current.mode ≠ .adopt then .state
  else if 8 ≤ s.ownerCount owner then .full
  else .done

/-- The record of a pot admitted OUT (R9). -/
def State.admittedOut (s : State) (tag owner : Nat) : PotRecord :=
  { PotRecord.empty with
    circuit := .outOfCircuit, tag := tag, owner := some owner, resistance := s.params.rNom, reportStamp := s.now }

/-- The record of a pot admitted IN (R10). -/
def State.admittedIn (s : State) (tag owner : Nat) : PotRecord :=
  { s.admittedOut tag owner with
    circuit := .inCircuit, voltage := s.voltageEstimate, startHoldEnd := s.newStartHold }

/-- ADMIT POT served (R8 to R10). -/
def State.serveAdmit (s : State) (position tag owner initial : Nat) : State × Reply :=
  let status := s.admitStatus position tag owner initial
  if status = .done then
    (s.putPot position
      (if initialOf initial = some .inCircuit then s.admittedIn tag owner else s.admittedOut tag owner)).answer .done
  else s.answer status

/-- ADMIT_POT (R8 to R10). -/
def execAdmitPot (position tag owner initial : Nat) (s : State) : Host.Outcome State Fault Refusal :=
  .next (s.lineRequest fun t => t.serveAdmit position tag owner initial)

/-- The status of a RETIRE POT (R11). -/
def State.retireStatus (s : State) (position tag : Nat) : ReqStatus :=
  if s.identity Option.none position tag ≠ .done then s.identity Option.none position tag
  else if (s.pot position).circuit = .inCircuit then .state
  else if (s.pot position).switch.isSome then .state
  else .done

/-- RETIRE POT served: every field but the tag returns to its reset value (R11). -/
def State.serveRetire (s : State) (position tag : Nat) : State × Reply :=
  let status := s.retireStatus position tag
  if status = .done then
    (s.putPot position { PotRecord.empty with tag := (s.pot position).tag }).answer .done
  else s.answer status

/-- RETIRE_POT (R11). -/
def execRetirePot (position tag : Nat) (s : State) : Host.Outcome State Fault Refusal :=
  .next (s.lineRequest fun t => t.serveRetire position tag)

/-- ASSIGN OWNER served (R5, R6). -/
def State.serveAssign (s : State) (position tag owner : Nat) : State × Reply :=
  let status := s.identity Option.none position tag
  if status ≠ .done then s.answer status
  else if !isNode owner then s.answer .param
  else if (s.pot position).owner = some owner then s.answer .done
  else if 8 ≤ s.ownerCount owner then s.answer .full
  else (s.putPot position { s.pot position with owner := some owner }).answer .done

/-- ASSIGN_OWNER (R6). -/
def execAssignOwner (position tag owner : Nat) (s : State) : Host.Outcome State Fault Refusal :=
  .next (s.lineRequest fun t => t.serveAssign position tag owner)

/-! ### Reading records (R26, R27) -/

/-- The flags byte of the record image (R198); a start hold that has run out is no longer present (R31). -/
def PotRecord.imageFlags (r : PotRecord) (now : Nat) : Nat :=
  flagBit r.silent 0 + flagBit (r.holdRuns now) 1 + flagBit (r.aeClass == .escalated) 2

/-- The 22-byte record image of a position (R26, R198). -/
def State.potImage (s : State) (p : Nat) : List Byte :=
  let r := s.pot p
  be 2 p ++ be 1 r.circuit.code ++ be 1 r.tag ++ be 1 (r.owner.getD 0) ++ be 2 r.voltage ++ be 3 r.resistance
    ++ be 1 (r.imageFlags s.now) ++ be 1 r.ae.code ++ be 2 (s.slotOrPlace p) ++ be 1 r.switchByte ++ be 1 r.lastSwitch.code
    ++ be 1 r.aeCount ++ be 2 r.aeSeconds ++ be 1 r.overruns ++ be 2 (ageField s.now r.reportStamp)

/-- READ POT served (R26). -/
def State.serveReadPot (s : State) (position : Nat) : State × Reply :=
  if isPosition position then (s, Reply.served .done (s.potImage position)) else s.answer .noRecord

/-- READ_POT (R26). -/
def execReadPot (position : Nat) (s : State) : Host.Outcome State Fault Refusal :=
  .next (s.lineRequest fun t => t.serveReadPot position)

/-- A READ POT RANGE that passes: first position 1 to 384, a count above 0, and a last position of at most 384 (R27). -/
def rangeGood (first count : Nat) : Bool :=
  isPosition first && 0 < count && first + count ≤ potCount + 1

/-- Frame `k` of a range reply: up to 11 images, continued but for the last (R27, R196). -/
def State.rangeFrame (s : State) (first count k : Nat) : Reply :=
  let positions := (List.range' (first + 11 * k) (min 11 (count - 11 * k)))
  ⟨.ok, .done, positions.flatMap s.potImage, 11 * (k + 1) < count⟩

/-- The frames after the first of a range reply, all captured when the request is taken (R27, R196). -/
def State.laterRangeFrames (s : State) (first count : Nat) : List Reply :=
  (List.range ((count + 10) / 11 - 1)).map fun k => s.rangeFrame first count (k + 1)

/-- A READ POT RANGE taken (R27, R196): the captured frames, or PARAM. -/
def State.takeRange (s : State) (first count : Nat) : State :=
  if s.port.takes then
    let t := s.abandonLoad
    if rangeGood first count then t.sendFrames (t.rangeFrame first count 0) (t.laterRangeFrames first count)
    else t.sendFrames (Reply.served .param []) []
  else s

/-- READ_POT_RANGE (R27, R196). -/
def execReadPotRange (first count : Nat) (s : State) : Host.Outcome State Fault Refusal :=
  .next (s.takeRange first count)

end Sys2Proof.Machine
end

