-- ==== Sys2Proof/Machine/Units.lean ====
section
/-! DEFINITION. Rectifier Units and Cooling (chapter 5): UNIT_REPORT with its reply, the trip, the timers FLOW_GRACE_EXPIRY,
UNIT_SILENCE and UNIT_LOSS, and the commands DEFINE_UNIT, REMOVE_UNIT, TRIP_UNIT, RESTORE_UNIT and READ_UNIT. -/

namespace Sys2Proof.Machine

/-! ### Capacity (R89, R90) -/

/-- The temperature capacity of a SERVING unit (R89). -/
def UnitRecord.temperatureCapacity (r : UnitRecord) : Nat :=
  if r.temperature ≤ r.tDerate then r.rated
  else if r.temperature < r.tTrip then r.rated * (r.tTrip - r.temperature) / (r.tTrip - r.tDerate)
  else 0

/-- The capacity of a unit (R89). -/
def UnitRecord.computedCapacity (r : UnitRecord) : Nat :=
  if r.serving then
    if r.flowLossStamp.isSome then r.temperatureCapacity / 2 else r.temperatureCapacity
  else 0

/-- The capacity and the derated flag computed (R89). -/
def UnitRecord.withCapacity (r : UnitRecord) : UnitRecord :=
  { r with capacity := r.computedCapacity, derated := r.serving && r.computedCapacity < r.rated }

/-! ### The steps of a report on the record (R87, R91, R92, R98) -/

/-- Steps 1 and 2 of R87: the stored fields and the end of silence. -/
def UnitRecord.stored (r : UnitRecord) (now measured temperature : Nat) (flowOk breakerClosed : Bool) : UnitRecord :=
  { r with
    measured := measured, temperature := saturate 1500 temperature, flowOk := flowOk, breakerClosed := breakerClosed
    reportStamp := now, silent := false, frozen := if r.silent then false else r.frozen }

/-- A SERVING unit that reports its breaker open (R87). -/
def UnitRecord.leftServing (r : UnitRecord) : UnitRecord :=
  { r with state := .idle, flowLossStamp := Option.none, demand := 0 }

/-- Step 3 of R87: the state by the reported breaker position, and R98 for a LOST unit. -/
def UnitRecord.movedByReport (r : UnitRecord) : UnitRecord :=
  match r.state, r.breakerClosed with
  | .idle, true => { r with state := .serving }
  | .serving, false => r.leftServing
  | .tripping, false => { r with state := .locked }
  | .lost, closed =>
    if r.tripCause = .none then { r with state := if closed then .serving else .idle }
    else { r with state := if closed then .tripping else .locked }
  | _, _ => r

/-- Steps 1 to 3 of a trip (R92). -/
def UnitRecord.tripped (r : UnitRecord) (cause : TripCause) : UnitRecord :=
  { r with
    state := .tripping, tripCause := cause, flowLossStamp := Option.none, frozen := false, demand := 0, capacity := 0
    derated := false }

/-- Step 4 of R87 applies: SERVING with a coolant temperature at or above T_trip. -/
def UnitRecord.overheated (r : UnitRecord) : Bool :=
  r.serving && r.tTrip ≤ r.temperature

/-- Step 5 of R87: the flow-loss stamp of a SERVING unit (R91). -/
def UnitRecord.notedFlow (r : UnitRecord) (now : Nat) : UnitRecord :=
  if r.serving then
    { r with flowLossStamp := if r.flowOk then Option.none else some (r.flowLossStamp.getD now) }
  else r

/-- Step 7 of R87: in ADOPT a SERVING unit's demand takes its measured current. -/
def UnitRecord.echoed (r : UnitRecord) (mode : LineMode) : UnitRecord :=
  if mode = .adopt ∧ r.serving then { r with demand := r.measured } else r

/-- The record after steps 3 and 4 of R87. -/
def UnitRecord.settledState (r : UnitRecord) : UnitRecord :=
  if r.movedByReport.overheated then r.movedByReport.tripped .temperature else r.movedByReport

/-- An event evaluation is called for by a change of a unit's state, of its silent flag while SERVING, or of its capacity
while eligible (R104). -/
def UnitRecord.callsEvaluation (before after : UnitRecord) : Bool :=
  before.state != after.state || (after.serving && before.silent != after.silent)
    || (after.eligible && before.capacity != after.capacity)

/-! ### UNIT REPORT (R86 to R88) -/

/-- The status of a UNIT REPORT (R86). -/
def State.unitReportStatus (s : State) (node u : Nat) : ReqStatus :=
  if !isUnit u then .noRecord
  else if (s.unit u).state = .absent then .noRecord
  else if (s.unit u).node ≠ node then .owner
  else .done

/-- The record of a unit after steps 1 to 7 of R87. -/
def State.reportedUnit (s : State) (r : UnitRecord) (measured temperature : Nat) (flowOk breakerClosed : Bool) :
    UnitRecord :=
  ((((r.stored s.now measured temperature flowOk breakerClosed).settledState.notedFlow s.now).withCapacity).echoed
    s.current.mode)

/-- A raising that is made where a condition holds. -/
def State.raiseIf (s : State) (c : Bool) (source : Source) (detail : Nat) : State :=
  if c then s.raise source detail else s

/-- An accepted UNIT REPORT: steps 1 to 8 of R87. DESIGN CHOICE: the capacity and the derated flag are computed once, at
step 6, so a unit that enters SERVING at step 3 and is tripped at step 4 raises UNIT TRIP and no UNIT DERATED, although
R89 computes at each change of state and R90 raises at the entry to SERVING (notes/assumptions/27). -/
def State.acceptUnitReport (s : State) (u measured temperature : Nat) (flowOk breakerClosed : Bool) : State :=
  let before := s.unit u
  let moved := (before.stored s.now measured temperature flowOk breakerClosed).movedByReport
  let after := s.reportedUnit before measured temperature flowOk breakerClosed
  let t := ((s.putUnit u after).raiseIf moved.overheated .unitTrip u).raiseIf
    (!before.derated && after.derated) .unitDerated u
  if before.callsEvaluation after then t.eventEvaluation else t

/-- The command of a unit reply: RUN 1, TRIP 2, ADOPT 3 (R88, R198). -/
def State.unitCommand (s : State) (r : UnitRecord) : Nat :=
  if r.state = .tripping ∨ r.state = .locked then 2 else if s.current.mode = .adopt then 3 else 1

/-- UNIT REPORT served for the node that holds the turn (R86 to R88). -/
def State.serveUnitReport (s : State) (node u measured temperature : Nat) (flowOk breakerClosed : Bool) :
    State × Reply :=
  let status := s.unitReportStatus node u
  if status = .done then
    let t := s.acceptUnitReport u measured temperature flowOk breakerClosed
    (t, Reply.served .done
      (be 1 (t.unit u).state.code ++ be 1 (t.unitCommand (t.unit u)) ++ be 2 (t.unit u).demand))
  else (s, Reply.served status (be 1 0 ++ be 1 0 ++ be 2 0))

/-- UNIT_REPORT (R86 to R88). -/
def execUnitReport (unit measured temperature : Nat) (flowOk breakerClosed : Bool) (s : State) :
    Host.Outcome State Fault Refusal :=
  .next (s.fieldRequest [.unitNode] fun node t => t.serveUnitReport node unit measured temperature flowOk breakerClosed)

/-! ### Trips and timers (R91 to R93, R96, R97) -/

/-- A SERVING unit tripped outside a report (R92). -/
def State.tripUnit (s : State) (u : Nat) (cause : TripCause) : State :=
  ((s.putUnit u ((s.unit u).tripped cause)).raise .unitTrip u).eventEvaluation

/-- The flow-loss grace of a unit has run out at the latest advance (R91). -/
def State.flowGraceDue (s : State) (u : Nat) : Bool :=
  match (s.unit u).flowLossStamp with
  | some stamp => (s.unit u).serving && s.meter.atAdvance.tFlowGrace ≤ age s.now stamp
  | Option.none => false

/-- FLOW_GRACE_EXPIRY (R91): the examination of one unit's flow-loss stamp. -/
def execFlowGraceExpiry (unit : Nat) (s : State) : Host.Outcome State Fault Refusal :=
  .next (if s.flowGraceDue unit then s.tripUnit unit .flow else s)

/-- SERVING or TRIPPING: the states whose report age is examined (R96, R97). -/
def UnitRecord.onLine (r : UnitRecord) : Bool :=
  r.state == .serving || r.state == .tripping

/-- The record becomes silent at the latest advance (R96). -/
def State.unitSilenceDue (s : State) (u : Nat) : Bool :=
  let r := s.unit u
  r.onLine && !r.silent && s.meter.atAdvance.tUnitSilent < age s.now r.reportStamp

/-- A unit becomes silent (R96). -/
def State.silenceUnit (s : State) (u : Nat) : State :=
  let r := s.unit u
  let t := s.putUnit u { r with silent := true, frozen := r.serving || r.frozen }
  if r.serving then t.eventEvaluation else t

/-- UNIT_SILENCE (R96): the examination of one unit's report age against T_unit_silent. -/
def execUnitSilence (unit : Nat) (s : State) : Host.Outcome State Fault Refusal :=
  .next (if s.unitSilenceDue unit then s.silenceUnit unit else s)

/-- The record is lost at the latest advance (R97). -/
def State.unitLossDue (s : State) (u : Nat) : Bool :=
  let r := s.unit u
  r.onLine && s.meter.atAdvance.tUnitLost < age s.now r.reportStamp

/-- Steps 1 to 3 of a loss (R97). -/
def UnitRecord.becomeLost (r : UnitRecord) : UnitRecord :=
  { r with
    state := .lost, silent := false, frozen := false, flowLossStamp := Option.none, demand := 0, capacity := 0
    derated := false }

/-- A unit is lost (R97). -/
def State.loseUnit (s : State) (u : Nat) : State :=
  ((s.putUnit u (s.unit u).becomeLost).raise .unitTrip u).eventEvaluation

/-- UNIT_LOSS (R97): the examination of one unit's report age against T_unit_lost. -/
def execUnitLoss (unit : Nat) (s : State) : Host.Outcome State Fault Refusal :=
  .next (if s.unitLossDue unit then s.loseUnit unit else s)

/-- TRIP UNIT served (R93). -/
def State.serveTripUnit (s : State) (u : Nat) : State × Reply :=
  if !isUnit u then s.answer .param
  else if (s.unit u).serving then (s.tripUnit u .lineMaster).answer .done
  else s.answer .state

/-- TRIP_UNIT (R93). -/
def execTripUnit (unit : Nat) (s : State) : Host.Outcome State Fault Refusal :=
  .next (s.lineRequest fun t => t.serveTripUnit unit)

/-! ### Definition, restore, removal and reading (R84, R95, R99, R100) -/

/-- A value of DEFINE UNIT is out of range (R84 check 3). -/
def defineValuesBad (node rated vMax tDerate tTrip : Nat) : Bool :=
  !isNode node || rated == 0 || vMax < 100000 || 4000000 < vMax || 1500 < tTrip || tTrip ≤ tDerate

/-- A node is already the node of a record that is not ABSENT (R84 check 4). -/
def State.nodeDefined (s : State) (node : Nat) : Bool :=
  s.units.toList.any fun r => r.state != .absent && r.node == node

/-- The status of a DEFINE UNIT (R84). -/
def State.defineStatus (s : State) (u node rated vMax tDerate tTrip : Nat) : ReqStatus :=
  if !isUnit u then .param
  else if (s.unit u).state ≠ .absent then .state
  else if defineValuesBad node rated vMax tDerate tTrip then .param
  else if s.nodeDefined node then .busy
  else .done

/-- The record of a unit just defined (R84). -/
def State.definedUnit (s : State) (node rated vMax tDerate tTrip : Nat) : UnitRecord :=
  { UnitRecord.empty with
    state := .idle, node := node, rated := rated, vMax := vMax, tDerate := tDerate, tTrip := tTrip
    reportStamp := s.now }

/-- DEFINE UNIT served (R84, R104). -/
def State.serveDefineUnit (s : State) (u node rated vMax tDerate tTrip : Nat) : State × Reply :=
  let status := s.defineStatus u node rated vMax tDerate tTrip
  if status = .done then
    (s.putUnit u (s.definedUnit node rated vMax tDerate tTrip)).eventEvaluation.answer .done
  else s.answer status

/-- DEFINE_UNIT (R84). -/
def execDefineUnit (unit node rated vMax tDerate tTrip : Nat) (s : State) : Host.Outcome State Fault Refusal :=
  .next (s.lineRequest fun t => t.serveDefineUnit unit node rated vMax tDerate tTrip)

/-- The status of a RESTORE UNIT (R95). -/
def State.restoreStatus (s : State) (u : Nat) : ReqStatus :=
  if !isUnit u then .param
  else if (s.unit u).state ≠ .locked then .state
  else if (s.unit u).tDerate ≤ (s.unit u).temperature ∨ !(s.unit u).flowOk then .state
  else .done

/-- RESTORE UNIT served (R95, R104). -/
def State.serveRestoreUnit (s : State) (u : Nat) : State × Reply :=
  let status := s.restoreStatus u
  if status = .done then
    (s.putUnit u { s.unit u with state := .idle, tripCause := .none }).eventEvaluation.answer .done
  else s.answer status

/-- RESTORE_UNIT (R95). -/
def execRestoreUnit (unit : Nat) (s : State) : Host.Outcome State Fault Refusal :=
  .next (s.lineRequest fun t => t.serveRestoreUnit unit)

/-- A unit that REMOVE UNIT can make ABSENT: IDLE, LOCKED or LOST (R99). -/
def UnitRecord.removable (r : UnitRecord) : Bool :=
  r.state == .idle || r.state == .locked || r.state == .lost

/-- REMOVE UNIT served (R99, R104). -/
def State.serveRemoveUnit (s : State) (u : Nat) : State × Reply :=
  if !isUnit u then s.answer .param
  else if (s.unit u).removable then (s.putUnit u UnitRecord.empty).eventEvaluation.answer .done
  else s.answer .state

/-- REMOVE_UNIT (R99). -/
def execRemoveUnit (unit : Nat) (s : State) : Host.Outcome State Fault Refusal :=
  .next (s.lineRequest fun t => t.serveRemoveUnit unit)

/-- The flags byte of the READ UNIT reply (R198). -/
def UnitRecord.flagsByte (r : UnitRecord) : Nat :=
  flagBit r.flowOk 0 + flagBit r.breakerClosed 1 + flagBit r.silent 2 + flagBit r.derated 3 + flagBit r.frozen 4
    + flagBit r.flowLossStamp.isSome 5

/-- The age of a stamp that may be absent, 0 where it is (R198). -/
def optionalAge (now : Nat) : Option Nat → Nat
  | some stamp => ageField now stamp
  | Option.none => 0

/-- The 27 bytes of the READ UNIT reply (R100, R198). -/
def State.unitImage (s : State) (u : Nat) : List Byte :=
  let r := s.unit u
  be 1 u ++ be 1 r.state.code ++ be 1 r.node ++ be 2 r.rated ++ be 4 r.vMax ++ be 2 r.tDerate ++ be 2 r.tTrip
    ++ be 2 r.measured ++ be 2 r.temperature ++ be 1 r.flagsByte ++ be 2 (ageField s.now r.reportStamp)
    ++ be 2 (optionalAge s.now r.flowLossStamp) ++ be 2 r.capacity ++ be 2 r.demand ++ be 1 r.tripCause.code

/-- READ UNIT served (R100). -/
def State.serveReadUnit (s : State) (u : Nat) : State × Reply :=
  if isUnit u then (s, Reply.served .done (s.unitImage u)) else s.answer .param

/-- READ_UNIT (R100). -/
def execReadUnit (unit : Nat) (s : State) : Host.Outcome State Fault Refusal :=
  .next (s.lineRequest fun t => t.serveReadUnit unit)

end Sys2Proof.Machine
end

