-- ==== Sys2Proof/Machine/Dispatch.lean ====
section
/-! DEFINITION. exec: one arm per command, each a direct call of its meaning. -/

namespace Sys2Proof.Machine

def exec (i : Instr) (s : State) : Host.Outcome State Fault Refusal :=
  match i with
  | .reset => Sys2Proof.Machine.execReset s
  | .dispatchCycle arbiterFirst => Sys2Proof.Machine.execDispatchCycle arbiterFirst s
  | .meteringTick shed => Sys2Proof.Machine.execMeteringTick shed s
  | .dayRollover shed => Sys2Proof.Machine.execDayRollover shed s
  | .intervalClose shed => Sys2Proof.Machine.execIntervalClose shed s
  | .curtailmentExpiry shed => Sys2Proof.Machine.execCurtailmentExpiry shed s
  | .potSilence position => Sys2Proof.Machine.execPotSilence position s
  | .startHoldExpiry position => Sys2Proof.Machine.execStartHoldExpiry position s
  | .escalation position => Sys2Proof.Machine.execEscalation position s
  | .settleExpiry position => Sys2Proof.Machine.execSettleExpiry position s
  | .permitExpiry slot => Sys2Proof.Machine.execPermitExpiry slot s
  | .rampFailure => Sys2Proof.Machine.execRampFailure s
  | .windowExpiry => Sys2Proof.Machine.execWindowExpiry s
  | .flowGraceExpiry unit => Sys2Proof.Machine.execFlowGraceExpiry unit s
  | .unitSilence unit => Sys2Proof.Machine.execUnitSilence unit s
  | .unitLoss unit => Sys2Proof.Machine.execUnitLoss unit s
  | .turn => Sys2Proof.Machine.execTurn s
  | .idleTime => Sys2Proof.Machine.execIdleTime s
  | .miss => Sys2Proof.Machine.execMiss s
  | .fieldFrameGap => Sys2Proof.Machine.execFieldFrameGap s
  | .fieldFrameRefused frame => Sys2Proof.Machine.execFieldFrameRefused frame s
  | .potReport items => Sys2Proof.Machine.execPotReport items s
  | .switchRequest position tag direction => Sys2Proof.Machine.execSwitchRequest position tag direction s
  | .switchDone position tag => Sys2Proof.Machine.execSwitchDone position tag s
  | .switchCancel position tag => Sys2Proof.Machine.execSwitchCancel position tag s
  | .quenchEnd position tag => Sys2Proof.Machine.execQuenchEnd position tag s
  | .unitReport unit measured temperature flowOk breakerClosed => Sys2Proof.Machine.execUnitReport unit measured temperature flowOk breakerClosed s
  | .pass => Sys2Proof.Machine.execPass s
  | .lmBreak => Sys2Proof.Machine.execLmBreak s
  | .lmFrameGap => Sys2Proof.Machine.execLmFrameGap s
  | .lmFrameRefused frame => Sys2Proof.Machine.execLmFrameRefused frame s
  | .rangeFrameNext => Sys2Proof.Machine.execRangeFrameNext s
  | .admitPot position tag owner initial => Sys2Proof.Machine.execAdmitPot position tag owner initial s
  | .retirePot position tag => Sys2Proof.Machine.execRetirePot position tag s
  | .assignOwner position tag owner => Sys2Proof.Machine.execAssignOwner position tag owner s
  | .readPot position => Sys2Proof.Machine.execReadPot position s
  | .readPotRange first count => Sys2Proof.Machine.execReadPotRange first count s
  | .defineUnit unit node rated vMax tDerate tTrip => Sys2Proof.Machine.execDefineUnit unit node rated vMax tDerate tTrip s
  | .removeUnit unit => Sys2Proof.Machine.execRemoveUnit unit s
  | .tripUnit unit => Sys2Proof.Machine.execTripUnit unit s
  | .restoreUnit unit => Sys2Proof.Machine.execRestoreUnit unit s
  | .readUnit unit => Sys2Proof.Machine.execReadUnit unit s
  | .addNode address kind => Sys2Proof.Machine.execAddNode address kind s
  | .dropNode address => Sys2Proof.Machine.execDropNode address s
  | .readNodes => Sys2Proof.Machine.execReadNodes s
  | .setTarget value => Sys2Proof.Machine.execSetTarget value s
  | .setParam identifier value => Sys2Proof.Machine.execSetParam identifier value s
  | .readParam identifier => Sys2Proof.Machine.execReadParam identifier s
  | .readLine => Sys2Proof.Machine.execReadLine s
  | .run => Sys2Proof.Machine.execRun s
  | .hold => Sys2Proof.Machine.execHold s
  | .resume => Sys2Proof.Machine.execResume s
  | .setClock timeOfDay dayOfWeek => Sys2Proof.Machine.execSetClock timeOfDay dayOfWeek s
  | .readMeter => Sys2Proof.Machine.execReadMeter s
  | .readPeriod => Sys2Proof.Machine.execReadPeriod s
  | .closePeriod => Sys2Proof.Machine.execClosePeriod s
  | .curtail limit minutes => Sys2Proof.Machine.execCurtail limit minutes s
  | .cancelCurtail => Sys2Proof.Machine.execCancelCurtail s
  | .loadTariff part final => Sys2Proof.Machine.execLoadTariff part final s
  | .readTariff selector => Sys2Proof.Machine.execReadTariff selector s
  | .lockTariff => Sys2Proof.Machine.execLockTariff s
  | .getAttention => Sys2Proof.Machine.execGetAttention s
  | .ackAttention code count => Sys2Proof.Machine.execAckAttention code count s
  | .setAttentionMask marks => Sys2Proof.Machine.execSetAttentionMask marks s
  | .lmrxIdleReturn => Sys2Proof.Machine.execLmrxIdleReturn s
  | .lmReplyEnd => Sys2Proof.Machine.execLmReplyEnd s

end Sys2Proof.Machine
end

