-- ==== Sys2Proof/Machine/Step.lean ====
section
/-! DEFINITION. One step: the command at the front of the queue is taken and run with the queue's rest. -/

namespace Sys2Proof.Machine

/-- The state with the queue of waiting commands written. -/
def State.withPending (s : State) (commands : List Instr) : State :=
  { s with pending := commands }

/-- One step. While no command waits, the reply being sent on the field link runs to its end, and the block idles once it
has (notes/assumptions/5). -/
def step (s : State) : Host.Outcome State Fault Refusal :=
  match s.pending with
  | [] => .next s.replyEnded
  | c :: rest => exec c (s.withPending rest)

/-- The state with the command that a word spells at the front of its queue; no word spells one (the table gives no
bits), so the state is unchanged. -/
def State.withFetchWord (s : State) (nbits w : Nat) : State :=
  match decodeTableWord nbits w with
  | some c => s.withPending (c :: s.pending)
  | Option.none => s

end Sys2Proof.Machine
end

