-- ==== Sys2Proof/Safety.lean ====
section
/-! DEFINITION. What a safe run keeps, block by block: the agreements between the tables, the queues, the slots, the sums and
the lines that the spec says always hold. Each is a property of one state, met at reset, that every step keeps. -/

namespace Sys2Proof.Machine

/-! ### Attention Unit (R172, R175) -/

/-- ATTN is asserted exactly when an enabled source is pending, and each source's count and detail fit its pending mark. -/
structure AttentionUnit.Sound (a : AttentionUnit) : Prop where
  line : a.attn = true ↔
    ∃ c, 1 ≤ c ∧ c ≤ 12 ∧ (a.source c).pending = true ∧ a.mask.getLsbD (c - 1) = true
  pendingCount : ∀ c, (a.source c).pending = true → 1 ≤ (a.source c).count ∧ (a.source c).count ≤ 255
  clearCount : ∀ c, (a.source c).pending = false → (a.source c).count = 0 ∧ (a.source c).detail = 0
  noDetail : ∀ c ∈ [2, 6, 9], (a.source c).detail = 0

/-! ### Pot Register (R4, R5, R23) -/

/-- The running line sums and the owner counts equal the sums and counts taken over the table; a VACANT record has no owner,
voltage 0 and R 0; every other record has an owner 1 to 62, and no address owns more than 8. -/
structure PotRegister.Sound (g : PotRegister) : Prop where
  countIn : g.nIn = (g.table.toList.map PotRecord.countIn).sum
  countOut : g.nOut = (g.table.toList.map PotRecord.countOut).sum
  sumR : g.sumR = (g.table.toList.map PotRecord.shareR).sum
  sumV : g.sumV = (g.table.toList.map PotRecord.shareV).sum
  owned : ∀ a, 1 ≤ a → a ≤ topNode →
    tget 0 g.ownerCounts a = g.table.toList.countP fun r => r.countedOwner == some a
  atMostEight : ∀ a, tget 0 g.ownerCounts a ≤ 8
  vacant : ∀ r ∈ g.table.toList, r.circuit = .vacant → r.owner = none ∧ r.voltage = 0 ∧ r.resistance = 0
  owner : ∀ r ∈ g.table.toList, r.circuit ≠ .vacant → ∃ a, r.owner = some a ∧ 1 ≤ a ∧ a ≤ topNode

/-! ### One pot record (R4, R28, R34, R63) -/

/-- The fields of a record that may be present stand as its AE state and circuit state allow. -/
structure PotRecord.Sound (r : PotRecord) : Prop where
  effectIn : r.ae ≠ .none → r.circuit = .inCircuit
  startStamp : r.startStamp.isSome = true ↔ r.ae ≠ .none
  slot : r.slot.isSome = true ↔ r.ae = .quenching
  settle : r.settleStamp.isSome = true ↔ r.ae = .settling
  startHold : r.startHoldEnd.isSome = true → r.circuit = .inCircuit ∧ r.ae = .none
  escalated : r.aeClass = .escalated → r.ae = .waiting ∨ r.ae = .quenching ∨ r.ae = .settling
  switchEffect : r.switch.isSome = true → r.ae = .none ∨ r.ae = .suspect
  switchIn : ∀ w, r.switch = some w → w.direction = .cutIn → r.circuit = .outOfCircuit
  switchOut : ∀ w, r.switch = some w → w.direction = .cutOut → r.circuit = .inCircuit

/-! ### The queues and the slots (R44, R46, R64, R69) -/

/-- The records are sound; the quench queue holds exactly the WAITING pots, each once; HELD slots and QUENCHING pots name
each other; the switch queue holds exactly the pots with a switch record, each once and at most 8, only in RUN, its head
RAMPING or OPEN and the rest QUEUED. -/
structure State.QueuesSound (s : State) : Prop where
  records : ∀ p, isPosition p = true → (s.pot p).Sound
  quenchOnce : s.quench.queue.Nodup
  quenchMember : ∀ p, p ∈ s.quench.queue ↔ isPosition p = true ∧ (s.pot p).ae = .waiting
  slotHeld : ∀ k held, s.slot k = some held →
    isPosition held.position = true ∧ (s.pot held.position).ae = .quenching ∧ (s.pot held.position).slot = some k
  slotNamed : ∀ p k, isPosition p = true → (s.pot p).slot = some k → ∃ held, s.slot k = some held ∧ held.position = p
  switchOnce : s.switching.queue.Nodup
  switchMember : ∀ p, p ∈ s.switching.queue ↔ isPosition p = true ∧ (s.pot p).switch.isSome = true
  switchLength : s.switching.queue.length ≤ 8
  switchHead : ∀ p rest w, s.switching.queue = p :: rest → (s.pot p).switch = some w → w.phase ≠ .queued
  switchRest : ∀ p rest q w, s.switching.queue = p :: rest → q ∈ rest → (s.pot q).switch = some w → w.phase = .queued
  switchMode : s.switching.queue ≠ [] → s.current.mode = .run

/-- The quench queue stands in the order of R44: ESCALATED before NORMAL, then the start stamp of greater age, then the
lower position. -/
def State.QueueOrdered (s : State) : Prop :=
  s.quench.queue.Pairwise fun a b =>
    ((s.pot a).aeClass = .escalated ∧ (s.pot b).aeClass = .normal) ∨
      ((s.pot a).aeClass = (s.pot b).aeClass ∧
        (s.startAge b < s.startAge a ∨ (s.startAge a = s.startAge b ∧ a < b)))

/-! ### Unit Table (R82, R84, R89) -/

/-- The fields of a unit record stand as its state allows. -/
structure UnitRecord.Sound (r : UnitRecord) : Prop where
  absent : r.state = .absent → r = UnitRecord.empty
  silent : r.silent = true → r.state = .serving ∨ r.state = .tripping
  frozen : r.frozen = (r.serving && r.silent)
  flowLoss : r.flowLossStamp.isSome = true → r.state = .serving
  demand : r.state ≠ .serving → r.demand = 0
  capacity : r.state ≠ .serving → r.capacity = 0
  rating : r.capacity ≤ r.rated
  derated : r.derated = true ↔ r.state = .serving ∧ r.capacity < r.rated
  noCause : r.state = .idle ∨ r.state = .serving → r.tripCause = .none
  cause : r.state = .tripping ∨ r.state = .locked → r.tripCause ≠ .none
  definition : r.state ≠ .absent →
    1 ≤ r.node ∧ r.node ≤ topNode ∧ 1 ≤ r.rated ∧ 100000 ≤ r.vMax ∧ r.vMax ≤ 4000000 ∧ r.tDerate < r.tTrip ∧ r.tTrip ≤ 1500
  clamped : r.temperature ≤ 1500

/-- Every unit record is sound, and no two units that are not ABSENT share a node (R84). -/
structure State.UnitsSound (s : State) : Prop where
  records : ∀ u, isUnit u = true → (s.unit u).Sound
  nodes : ∀ u v, isUnit u = true → isUnit v = true → (s.unit u).state ≠ .absent → (s.unit v).state ≠ .absent →
    (s.unit u).node = (s.unit v).node → u = v

/-! ### The setpoint and the demands (R124, R126) -/

/-- The sum of the demands of the SERVING units. -/
def State.servingDemands (s : State) : Nat :=
  (s.units.toList.map fun u => if u.serving then u.demand else 0).sum

/-- In RUN and HOLD the setpoint is at least F, and at most I_cap where F is in the range of a current (R103 clamps I_cap and
R122 does not clamp F: notes/assumptions/1); the demands of the SERVING units add up to the setpoint, no eligible unit's
demand exceeds its capacity; and in RUN a switch queue that is not empty keeps the setpoint at most I_ceiling, or the frozen
demands where they are more. -/
structure State.DispatchSound (s : State) : Prop where
  atLeastFrozen : s.current.mode ≠ .adopt → s.frozenSum ≤ s.current.setpoint
  withinCapacity : s.current.mode ≠ .adopt → s.frozenSum ≤ topCurrent → s.current.setpoint ≤ s.iCap
  demandsAddUp : s.current.mode ≠ .adopt → s.servingDemands = s.current.setpoint
  demandWithin : s.current.mode ≠ .adopt → ∀ u ∈ s.units.toList, u.eligible = true → u.demand ≤ u.capacity
  ceiling : s.current.mode = .run → s.switching.queue ≠ [] →
    s.current.setpoint ≤ max s.params.iCeiling s.frozenSum

/-! ### Demand Meter and Tariff Store (R139 to R141, R154, R161, R162) -/

/-- A schedule of a table: 1 to 12 change points in strictly ascending order, the first at second 0, on the grid of the
length, within the day, each naming a band of the table (R162). -/
structure ScheduleValid (length bandCount : Nat) (points : List ChangePoint) : Prop where
  size : 1 ≤ points.length ∧ points.length ≤ 12
  first : ∀ c rest, points = c :: rest → c.second = 0
  ascending : points.Pairwise fun a b => a.second < b.second
  grid : ∀ c ∈ points, c.second % length = 0 ∧ c.second < daySeconds
  bands : ∀ c ∈ points, 1 ≤ c.band ∧ c.band ≤ bandCount

/-- A tariff table meets R162. -/
structure TariffTable.Valid (t : TariffTable) : Prop where
  length : 300 ≤ t.length ∧ t.length ≤ 3600 ∧ t.length % 60 = 0 ∧ daySeconds % t.length = 0
  bandCount : 1 ≤ t.bandCount ∧ t.bandCount ≤ 4
  limits : t.limits.length = t.bandCount ∧ ∀ l ∈ t.limits, l ≤ topLimit
  restMask : t.restMask < 128
  working : ScheduleValid t.length t.bandCount t.working
  rest : ScheduleValid t.length t.bandCount t.rest

/-- The tables are valid, the calendar is in range, and the interval in progress has not run out, ends on the grid of the
active table, began when the time of day says it did, and carries the band and limit that the table gives now. -/
structure State.MeterSound (s : State) : Prop where
  active : s.tariff.active.Valid
  staged : ∀ t, s.tariff.staged = some t → t.Valid
  seconds : s.meter.lineSeconds < secondsModulus
  timeOfDay : s.meter.timeOfDay < daySeconds
  dayOfWeek : s.meter.dayOfWeek < 7
  dayCount : s.meter.dayCount < 65536
  elapsed : s.meter.interval.elapsed < s.meter.interval.planned
  grid : s.meter.interval.planned = s.tariff.active.length - s.meter.interval.start % s.tariff.active.length
  began : s.meter.timeOfDay = s.meter.interval.start + s.meter.interval.elapsed
  band : s.meter.interval.band = s.tariff.active.bandAt s.meter.timeOfDay s.meter.dayOfWeek
  limit : s.meter.interval.limit = s.tariff.active.limitOf s.meter.interval.band
  residues : ∀ b, (s.meter.period.band b).residue < 3600 ∧ (s.meter.closed.figures.band b).residue < 3600
  energies : ∀ b, (s.meter.period.band b).kwh < 4294967296 ∧ (s.meter.closed.figures.band b).kwh < 4294967296
  governorOff : s.meter.governor.state = .off → s.meter.governor.iDlim = topCurrent
  governorLimit : s.meter.governor.iDlim ≤ topCurrent

/-! ### The links (R181, R185, R186, R196) -/

/-- A ring entry's fields are in range and fit its presence (R181, R186). -/
structure RingEntry.Sound (e : RingEntry) : Prop where
  address : 1 ≤ e.address ∧ e.address ≤ topNode
  active : e.presence = .active → e.misses ≤ 2 ∧ e.passCounter = 0
  absent : e.presence = .absent → e.misses = 3 ∧ e.passCounter ≤ 15

/-- The ring holds at most 62 sound entries of distinct addresses; the walk position is an entry, none exactly where the
ring is empty; a turn whose entry stands is held by the entry at the walk position; a reply is being sent exactly in a turn
that has come to it; the idle time runs only while no turn is in progress and the ring holds an entry. -/
structure FieldLink.Sound (f : FieldLink) : Prop where
  size : f.ring.length ≤ topNode
  entries : ∀ e ∈ f.ring, e.Sound
  addresses : (f.ring.map RingEntry.address).Nodup
  walkNone : f.walk = none ↔ f.ring = []
  walkEntry : ∀ k, f.walk = some k → k < f.ring.length
  holder : ∀ t, f.turn = some t → t.entryStands = true →
    ∃ k e, f.walk = some k ∧ f.ring[k]? = some e ∧ e.address = t.address ∧ e.kind = t.kind
  reply : f.reply.isSome = true ↔ ∃ t, f.turn = some t ∧ t.phase = .reply
  idle : f.idle = true → f.turn = none ∧ f.ring ≠ []

/-- Frames wait on the line master port only behind a reply that is being sent. -/
def LinePort.Sound (p : LinePort) : Prop :=
  p.due ≠ [] → p.reply.isSome = true

/-! ### The whole block -/

/-- A safe state: every agreement above holds. -/
structure State.Safe (s : State) : Prop where
  attention : s.attention.Sound
  pots : s.pots.Sound
  queues : s.QueuesSound
  order : s.QueueOrdered
  units : s.UnitsSound
  dispatch : s.DispatchSound
  meter : s.MeterSound
  field : s.field.Sound
  port : s.port.Sound

end Sys2Proof.Machine
end

