-- ==== Sys2Proof/WellFormed.lean ====
section
/-! DEFINITION. The commands that can be sent: a request whose fields fit the bytes of R198 and R199, an event that names
a position, slot or unit that exists, and a refused frame that a receiver could have taken. A value that fits its bytes
and breaks a rule is well formed: the serving rule refuses it. -/

namespace Sys2Proof

/-- The number fits one byte. -/
def fits1 (n : Nat) : Bool := n < 256
/-- The number fits two bytes. -/
def fits2 (n : Nat) : Bool := n < 65536
/-- The number fits four bytes. -/
def fits4 (n : Nat) : Bool := n < 4294967296

/-- The number is one of 1 to `top`. -/
def oneTo (top n : Nat) : Bool := 1 ≤ n && n ≤ top

/-- A POT REPORT item fits its 5 bytes (R198). -/
def ReportItem.wellFormed (i : ReportItem) : Bool :=
  fits2 i.position && fits1 i.tag && fits2 i.voltage

/-- A change point fits its 5 bytes (R198). -/
def ChangePoint.wellFormed (c : ChangePoint) : Bool :=
  fits4 c.second && fits1 c.band

/-- A tariff section fits one frame: at most 49 points of 5 bytes after the section code and the count (R192, R199). -/
def TariffPart.wellFormed : TariffPart → Bool
  | .header h =>
    fits2 h.length && fits1 h.bandCount && fits4 h.limit1 && fits4 h.limit2 && fits4 h.limit3 && fits4 h.limit4
      && fits1 h.restMask
  | .working points => points.length ≤ 49 && points.all ChangePoint.wellFormed
  | .rest points => points.length ≤ 49 && points.all ChangePoint.wellFormed

/-- The characters a receiver can have taken as one frame (R187, R192), each with its fault: mark 1 on the field link, a
framing error on the line master port. At least one character. Where the start marker and the length are good and no
character is at fault, exactly the length's count of them; where a character of that count is at fault the frame is bad
in structure and ends at a silence, after any number. DESIGN CHOICE: a lone start marker followed by the silence, which
the two rules name neither bad in structure nor a gap, can be a refused frame (notes/assumptions/29). -/
def receivable : List (Bool × Byte) → Bool
  | [] => false
  | [_] => true
  | a :: n :: rest =>
    if a.2 == startMarker && (1 ≤ n.2.toNat && n.2.toNat ≤ 251) then
      rest.length == n.2.toNat + 2 || ((a :: n :: rest).take (n.2.toNat + 4)).any Prod.fst
    else true

/-- The command can be sent to the block. -/
def Instr.wellFormed : Instr → Bool
  | .reset | .dispatchCycle _ | .meteringTick _ | .dayRollover _ | .intervalClose _ | .curtailmentExpiry _ => true
  | .potSilence p | .startHoldExpiry p | .escalation p | .settleExpiry p => oneTo potCount p
  | .permitExpiry k => oneTo 4 k
  | .rampFailure | .windowExpiry => true
  | .flowGraceExpiry u | .unitSilence u | .unitLoss u => oneTo unitCount u
  | .turn | .idleTime | .miss | .fieldFrameGap => true
  | .fieldFrameRefused frame => receivable (frame.map fun c => (c.mark, c.data))
  | .potReport items => oneTo 8 items.length && items.all ReportItem.wellFormed
  | .switchRequest p t d => fits2 p && fits1 t && fits1 d
  | .switchDone p t | .switchCancel p t | .quenchEnd p t => fits2 p && fits1 t
  | .unitReport u m t _ _ => fits1 u && fits2 m && fits2 t
  | .pass | .lmBreak | .lmFrameGap => true
  | .lmFrameRefused frame => receivable (frame.map fun c => (c.framingError, c.data))
  | .rangeFrameNext => true
  | .admitPot p t o i => fits2 p && fits1 t && fits1 o && fits1 i
  | .retirePot p t => fits2 p && fits1 t
  | .assignOwner p t o => fits2 p && fits1 t && fits1 o
  | .readPot p => fits2 p
  | .readPotRange p n => fits2 p && fits2 n
  | .defineUnit u n r v d t => fits1 u && fits1 n && fits2 r && fits4 v && fits2 d && fits2 t
  | .removeUnit u | .tripUnit u | .restoreUnit u | .readUnit u => fits1 u
  | .addNode a k => fits1 a && fits1 k
  | .dropNode a => fits1 a
  | .readNodes => true
  | .setTarget v => fits2 v
  | .setParam i v => fits1 i && fits4 v
  | .readParam i => fits1 i
  | .readLine | .run | .hold | .resume => true
  | .setClock t w => fits4 t && fits1 w
  | .readMeter | .readPeriod | .closePeriod => true
  | .curtail l m => fits4 l && fits2 m
  | .cancelCurtail => true
  | .loadTariff part _ => part.wellFormed
  | .readTariff c => fits1 c
  | .lockTariff | .getAttention => true
  | .ackAttention c n => fits1 c && fits1 n
  | .setAttentionMask m => fits2 m
  | .lmrxIdleReturn | .lmReplyEnd => true

end Sys2Proof
end

