-- ==== Sys2Proof/Certificates/Slice0/Obligations.lean ====
section
/-! DEFINITION. The statements for the provers, one per heading of OBLIGATIONS.json, with the few words they are written in.
A request of the line master is stated at a receiver that takes frames, on the state whose load in progress is abandoned
(R165); a field request at a response window that runs, on the state whose ring entry has answered (R188). -/

namespace Sys2Proof.Claims

open Sys2Proof.Machine

/-! ### Words -/

/-- The state with a single final reply frame of link status OK begun on the line master port. -/
def answered (s : State) (status : ReqStatus) (payload : List Byte) : State :=
  s.sendFrames ⟨.ok, status, payload, false⟩ []

/-- The state with a reply of link status OK begun on the field link. -/
def fieldAnswered (s : State) (status : ReqStatus) (payload : List Byte) : State :=
  s.sendFieldReply ⟨.ok, status, payload, false⟩

/-- The checks of R12 in their order, for a request attributed to `node` (none for a line master request): what is done
with the status of the first that fails, and what is done where all pass. -/
def gate {α : Type} (s : State) (node : Option Nat) (p tag : Nat) (refused : ReqStatus → α) (passed : α) : α :=
  if p < 1 ∨ 384 < p then refused .noRecord
  else if (s.pot p).circuit = .vacant then refused .noRecord
  else if node ≠ none ∧ (s.pot p).owner ≠ node then refused .owner
  else if (s.pot p).tag ≠ tag then refused .stale
  else passed

/-- A turn whose response window runs, held by a node of a kind. -/
def Window (s : State) (turn : Turn) (kind : NodeKind) : Prop :=
  s.field.awaited = some turn ∧ turn.kind = kind

/-- The record of an IN pot after steps 1 to 3 of R15. -/
def reported (s : State) (p v : Nat) : PotRecord :=
  { s.pot p with
    voltage := v, reportStamp := s.now, silent := false
    resistance :=
      if s.iMeas < s.params.iRmin then (s.pot p).resistance
      else if v ≤ s.params.e0 then 0
      else min 1000000 ((v - s.params.e0) * 100000 / s.iMeas) }

/-- The start hold of a record runs: the seconds from now to its end, modulo 4,294,967,296, are 1 to 86,400, the longest
hold (R31, R128; notes/assumptions/9). -/
def held (r : PotRecord) (now : Nat) : Bool :=
  match r.startHoldEnd with
  | some e => 1 ≤ (e + 4294967296 - now) % 4294967296 && (e + 4294967296 - now) % 4294967296 ≤ 86400
  | none => false

/-- A grant of slot `k` to pot `p` at the head of the queue: steps 1 to 4 of R50, the event evaluation last. -/
def granted (s : State) (p k : Nat) : State :=
  (State.putPot
    { s with quench := { slots := tput s.quench.slots k (some ⟨p, s.now⟩), queue := s.quench.queue.drop 1 } } p
    { s.pot p with ae := .quenching, slot := some k }).eventEvaluation

/-- The comparison of a dispatch cycle: in RUN a RAMPING head opens where I_meas is at most I_ceiling (R70). -/
def headCompared (s : State) : State :=
  match s.switching.queue with
  | [] => s
  | p :: _ =>
    match (s.pot p).switch with
    | none => s
    | some w =>
      if s.current.mode = .run ∧ w.phase = .ramping ∧ s.iMeas ≤ s.params.iCeiling then
        s.putPot p { s.pot p with switch := some { w with phase := .opened, stamp := s.now } }
      else s

/-- An entry the walk passes over without a turn (R185). -/
abbrev passedOver (e : RingEntry) : Prop :=
  e.presence = .absent ∧ e.passCounter < 15

/-- An entry the walk gives a turn (R185). -/
abbrev due (e : RingEntry) : Prop :=
  e.presence = .active ∨ e.passCounter = 15

/-- An entry after it has been passed over (R185). -/
def counted (e : RingEntry) : RingEntry :=
  { e with passCounter := e.passCounter + 1 }

/-- The Field Link Controller after the walk has given a turn to an entry at an index of a ring (R130, R185, R186). -/
def given (s : State) (ring : List RingEntry) (index : Nat) (e : RingEntry) : FieldLink :=
  { s.field with
    ring := ring, walk := some index, turn := some ⟨e.address, e.kind, true, .await⟩, passGave := true
    speed := s.params.fieldSpeed, reply := none }

/-- The Field Link Controller at rest after a pass without a turn (R185). -/
def rested (s : State) (ring : List RingEntry) : FieldLink :=
  { s.field with ring := ring, walk := some 0, passGave := false, idle := true }

/-- The Field Link Controller after the turn in progress has ended: the walk position moves to the next entry, a new pass
begins after the last, and the position stands where DROP NODE removed the entry (R183, R185). -/
def turnOver (f : FieldLink) : FieldLink :=
  match f.turn, f.walk with
  | some turn, some k =>
    if turn.entryStands then
      { f with
        turn := none, reply := none, walk := if k + 1 < f.ring.length then some (k + 1) else some 0
        passGave := f.passGave && k + 1 < f.ring.length }
    else { f with turn := none, reply := none }
  | _, _ => { f with turn := none, reply := none }

/-- The bytes of a frame of good structure: start marker, length, code, payload, sum and an end marker (R187, R192). -/
def shaped (ends bytes : List Byte) (code : Byte) (payload : List Byte) (sum : Byte) : Prop :=
  payload.length ≤ 250 ∧ ∃ last ∈ ends,
    bytes = [0xC3, BitVec.ofNat 8 (payload.length + 1), code] ++ payload ++ [sum, last]

/-- What length, code, payload and sum of a frame add up to. -/
def frameTotal (code : Byte) (payload : List Byte) (sum : Byte) : Nat :=
  (payload.length + 1) + code.toNat + (payload.map BitVec.toNat).sum + sum.toNat

/-- The request sizes of the field link (R199). -/
def fieldSizes : List (Nat × List Nat) :=
  [(0x01, [5, 10, 15, 20, 25, 30, 35, 40]), (0x02, [4]), (0x03, [3]), (0x04, [3]), (0x05, [3]), (0x06, [6]), (0x07, [0])]

/-- The request sizes of the line master port but that of LOAD TARIFF (R199). -/
def lineSizes : List (Nat × Nat) :=
  [(0x20, 5), (0x21, 3), (0x22, 4), (0x23, 2), (0x24, 4), (0x30, 12), (0x31, 1), (0x32, 1), (0x33, 1), (0x34, 1),
   (0x38, 2), (0x39, 1), (0x3A, 0), (0x40, 2), (0x41, 5), (0x42, 1), (0x43, 0), (0x44, 0), (0x45, 0), (0x46, 0),
   (0x50, 5), (0x51, 0), (0x52, 0), (0x53, 0), (0x54, 6), (0x55, 0), (0x57, 1), (0x58, 0), (0x60, 0), (0x61, 2),
   (0x62, 2)]

/-- The payload of a line master frame has the right size: by the code, and for LOAD TARIFF by the section (R199). -/
def lineSizeRight (code : Nat) (payload : List Byte) : Prop :=
  (code, payload.length) ∈ lineSizes ∨
    (code = 0x56 ∧ ((payload.head? = some 1 ∧ payload.length = 21) ∨
      ((payload.head? = some 2 ∨ payload.head? = some 3) ∧
        ∃ n, payload[1]? = some n ∧ payload.length = 2 + 5 * n.toNat)))

/-- The items of R166 for one schedule in their order, each with whether it is bad. -/
def scheduleItems (part length bandCount : Nat) : Option (List ChangePoint) → List (Bool × BadItem)
  | none => [(true, ⟨part, 5, 0⟩)]
  | some points =>
    (points.length < 1 || 12 < points.length, ⟨part, 6, 0⟩) ::
      (points.zipIdx 1).flatMap fun x =>
        [((if x.2 = 1 then x.1.second != 0 else x.1.second ≤ (points.getD (x.2 - 2) ⟨0, 0⟩).second)
            || x.1.second % length != 0 || 86399 < x.1.second, ⟨part, 7, x.2⟩),
         (x.1.band < 1 || bandCount < x.1.band, ⟨part, 8, x.2⟩)]

/-- The items of R166 in their order, each with whether it is bad. -/
def loadItems (h : TariffHeader) (working rest : Option (List ChangePoint)) : List (Bool × BadItem) :=
  [(h.length < 300 || 3600 < h.length || h.length % 60 != 0 || 86400 % h.length != 0, ⟨1, 1, 0⟩),
   (h.bandCount < 1 || 4 < h.bandCount, ⟨1, 2, 0⟩), (1 ≤ h.bandCount && 16777215 < h.limit1, ⟨1, 3, 1⟩),
   (2 ≤ h.bandCount && 16777215 < h.limit2, ⟨1, 3, 2⟩), (3 ≤ h.bandCount && 16777215 < h.limit3, ⟨1, 3, 3⟩),
   (4 ≤ h.bandCount && 16777215 < h.limit4, ⟨1, 3, 4⟩), (127 < h.restMask, ⟨1, 4, 0⟩)]
    ++ scheduleItems 2 h.length h.bandCount working ++ scheduleItems 3 h.length h.bandCount rest

/-- The age of a stamp in seconds, at most 65,535 (R198). -/
def shownAge (now stamp : Nat) : Nat :=
  min ((now + 4294967296 - stamp) % 4294967296) 65535

/-- A flag as a bit of a byte. -/
def bit (b : Bool) (n : Nat) : Nat :=
  if b then 2 ^ n else 0

/-- The switch byte of a switch record that may be absent (R198). -/
def switchCode (w : Option SwitchRecord) : Nat :=
  match w with
  | some w => w.direction.code * 16 + w.phase.code
  | none => 0

/-- The figures of a period, 38 bytes (R198). -/
def periodBytes (f : PeriodFigures) : List Byte :=
  be 4 (f.band 1).kwh ++ be 2 (f.band 1).residue ++ be 4 (f.band 2).kwh ++ be 2 (f.band 2).residue ++
    be 4 (f.band 3).kwh ++ be 2 (f.band 3).residue ++ be 4 (f.band 4).kwh ++ be 2 (f.band 4).residue ++
    be 4 f.maximum ++ be 2 f.maximumDay ++ be 4 f.maximumTime ++ be 2 f.counted ++ be 2 f.uncounted

/-- The band and the limit that a table gives at a time of day and a day of week (R163): those of the last change point
whose second is at most the time, in the REST schedule where bit d of the mask marks day d and the WORKING one otherwise. -/
def inForce (table : TariffTable) (time day band limit : Nat) : Prop :=
  ∀ (front back : List ChangePoint) (c : ChangePoint),
    (if table.restMask.testBit day then table.rest else table.working) = front ++ c :: back → c.second ≤ time →
    (∀ x ∈ back, time < x.second) →
    band = c.band ∧ ∀ k, c.band = k + 1 → ∀ l, table.limits[k]? = some l → limit = l

/-- The figures of a period after an interval has been closed into them (R144). -/
def closedInto (f : PeriodFigures) (demand : Nat) (counted : Bool) (day time : Nat) : PeriodFigures :=
  let highest := counted && decide (f.maximum < demand)
  { bands := f.bands
    maximum := if highest then demand else f.maximum
    maximumDay := if highest then day else f.maximumDay
    maximumTime := if highest then time else f.maximumTime
    counted := if counted then min (f.counted + 1) 65535 else f.counted
    uncounted := if counted then f.uncounted else min (f.uncounted + 1) 65535 }

/-- The voltage-limited current of R116 for a held-slot count. -/
def vlim (s : State) (k : Nat) : Nat :=
  let numerator : Int := (s.vCap : Int) - s.params.vBaseReserve - k * s.params.qRes - s.pots.nIn * s.params.e0
  let denominator := s.pots.sumR + s.pots.nOut * s.params.rBypass + s.params.rBus
  if numerator ≤ 0 then 0
  else if denominator = 0 then 65535
  else min 65535 (numerator.toNat * 100000 / denominator)

/-- The rows of R128 whose range is a pair of bounds: identifier, least value, greatest value. -/
def paramBounds : List (Nat × Nat × Nat) :=
  [(1, 1000, 2500), (2, 1000, 20000), (3, 0, 1000), (4, 0, 65535), (5, 0, 500000), (6, 0, 100000), (7, 0, 65535),
   (8, 0, 65535), (9, 1, 1000), (10, 1000, 65535), (11, 5000, 30000), (13, 1, 30), (14, 30, 1800), (15, 30, 900),
   (16, 5, 300), (17, 0, 1440), (18, 5, 120), (19, 2, 30), (21, 5, 120), (22, 30, 1800), (23, 60, 3600),
   (24, 0, 16777215)]

/-- A value of a parameter is in its range and keeps its cross-constraint (R128, R129). -/
def paramAllowed (s : State) (i v : Nat) : Prop :=
  (∃ b ∈ paramBounds, b.1 = i ∧ b.2.1 ≤ v ∧ v ≤ b.2.2 ∧ (i = 11 → s.params.vAeEnd + 500 ≤ v) ∧
      (i = 19 → v < s.params.tUnitLost)) ∨
    (i = 12 ∧ 3000 ≤ v ∧ v + 500 ≤ s.params.vAe) ∨ (i = 20 ∧ s.params.tUnitSilent < v ∧ v ≤ 120) ∨
    ((i = 25 ∨ i = 26) ∧ (v = 19200 ∨ v = 38400 ∨ v = 57600 ∨ v = 115200))

end Sys2Proof.Claims

open Sys2Proof Sys2Proof.Machine Sys2Proof.Claims

/-! ### The step -/

/-- One step takes the command at the front of the queue of waiting commands and runs it on the state with the queue's
rest. Where none waits, a reply being sent on the field link comes to its end: the turn is over, the walk position
moves on, FLDE is negated and no node holds the turn; otherwise the state stays. The queue, and the end of a field
reply as what a step does while the queue is empty, are the model's way of giving the block its commands
(notes/assumptions/23 and 5). -/
def Obligations.StepRunsFrontCommand : Prop :=
  (∀ (c : Instr) (rest : List Instr) (s : State), s.pending = c :: rest → step s = exec c (s.withPending rest)) ∧
  (∀ s : State, s.pending = [] → s.field.reply = none → step s = .next s) ∧
  (∀ s : State, s.pending = [] → s.field.reply ≠ none → s.field.turn ≠ none →
    step s = .next { s with field := turnOver s.field } ∧ (turnOver s.field).flde = false ∧
      (turnOver s.field).turnAddress = 0)

/-- Every command of the table, with any operands and in any state, answers a next state, and the queue of waiting
commands is left as it is: no command ends in a fault or a refusal. The queue is the model's own
(notes/assumptions/23); that RESET leaves it (notes/assumptions/22) and that a command runs on operands no frame can
spell (notes/assumptions/24) are the model's choices. -/
def Obligations.EveryCommandCompletes : Prop :=
  ∀ (c : Instr) (s : State), ∃ t, exec c s = .next t ∧ t.pending = s.pending

/-! ### Reset -/

/-- R3: at reset every pot record, every line sum and every owner count takes its value (the model's own field
confirmStamp aside); a break on the line master port and the frame errors of either link leave the pot table
unchanged. -/
def Obligations.ResetEmptiesPotTable : Prop :=
  (∀ s : State, ∃ t, exec .reset s = .next t ∧
    (∀ p, 1 ≤ p → p ≤ 384 → { t.pot p with confirmStamp := none } =
      { circuit := .vacant, tag := 0, owner := none, voltage := 0, reportStamp := 0, silent := false, resistance := 0
        ae := .none, aeClass := .normal, startStamp := none, slot := none, settleStamp := none, startHoldEnd := none
        aeCount := 0, aeSeconds := 0, overruns := 0, switch := none, lastSwitch := .none, confirmStamp := none }) ∧
    t.pots.nIn = 0 ∧ t.pots.nOut = 0 ∧ t.pots.sumR = 0 ∧ t.pots.sumV = 0 ∧
    (∀ a, 1 ≤ a → a ≤ 62 → t.ownerCount a = 0)) ∧
  (∀ (c : Instr) (s : State),
    (c = .lmBreak ∨ c = .lmFrameGap ∨ c = .fieldFrameGap ∨ (∃ f, c = .lmFrameRefused f) ∨
      ∃ f, c = .fieldFrameRefused f) →
    ∃ t, exec c s = .next t ∧ t.pots = s.pots)

/-- What a reset leaves in the other blocks: the line mode, the limits and the parameters (R107, R128), the units
(R83), the queues and the slots (R44, R46, R64), the meter with its interval, period and closed-period records (R139,
R143, R144, R147, R154, R160), the tariff (R161, R164), the attention sources (R172), and the links with their speeds
(R180, R181, R191). -/
def Obligations.ResetValuesOfEveryBlock : Prop :=
  ∀ s : State, ∃ t, exec .reset s = .next t ∧
    (t.current.mode = .adopt ∧ t.current.target = 0 ∧ t.current.setpoint = 0 ∧ t.current.governing = .adopt ∧
      t.current.limits = ⟨0, 0, 0, 0, 0, 0⟩) ∧
    (List.range 26).map (fun i => t.params.get (i + 1)) =
      [1650, 6500, 20, 1500, 30000, 20000, 24000, 30000, 10, 5000, 8000, 6000, 2, 180, 120, 30, 240, 15, 5, 20, 30,
        300, 600, 400000, 38400, 115200].map some ∧
    (∀ u, 1 ≤ u → u ≤ 8 → t.unit u =
      { state := .absent, node := 0, rated := 0, vMax := 0, tDerate := 0, tTrip := 0, measured := 0, temperature := 0
        flowOk := true, breakerClosed := false, reportStamp := 0, flowLossStamp := none, silent := false, capacity := 0
        derated := false, demand := 0, frozen := false, tripCause := .none }) ∧
    t.quench.queue = [] ∧ (∀ k, 1 ≤ k → k ≤ 4 → t.slot k = none) ∧ t.switching.queue = [] ∧
    (t.meter.divider = 0 ∧ t.meter.lineSeconds = 0 ∧ t.meter.timeOfDay = 0 ∧ t.meter.dayOfWeek = 0 ∧
      t.meter.dayCount = 0 ∧ t.meter.interval = ⟨0, 900, 0, 0, 1, 16777215⟩ ∧ t.meter.previous = ⟨0, 0, 0, false⟩ ∧
      t.meter.pendingClose = false ∧ t.meter.governor = ⟨.off, 0, 0, 65535⟩ ∧ t.meter.curtailment = none ∧
      t.meter.vLine = 0 ∧ t.meter.power = 0 ∧ t.meter.shed = false) ∧
    ((∀ b, 1 ≤ b → b ≤ 4 → t.meter.period.band b = ⟨0, 0⟩ ∧ t.meter.closed.figures.band b = ⟨0, 0⟩) ∧
      t.meter.period.maximum = 0 ∧ t.meter.period.maximumDay = 0 ∧ t.meter.period.maximumTime = 0 ∧
      t.meter.period.counted = 0 ∧ t.meter.period.uncounted = 0 ∧ t.meter.closed.figures.maximum = 0 ∧
      t.meter.closed.figures.maximumDay = 0 ∧ t.meter.closed.figures.maximumTime = 0 ∧
      t.meter.closed.figures.counted = 0 ∧ t.meter.closed.figures.uncounted = 0 ∧ t.meter.closed.closeDay = 0 ∧
      t.meter.closed.closeTime = 0) ∧
    (t.tariff.active = ⟨900, 1, [16777215], 0, [⟨0, 1⟩], [⟨0, 1⟩]⟩ ∧ t.tariff.staged = none ∧
      t.tariff.locked = false ∧ t.tariff.load = none) ∧
    (t.attention.attn = false ∧ ∀ c, 1 ≤ c → c ≤ 12 → t.attention.source c = ⟨false, 0, 0⟩ ∧
      t.attention.enabled c = true) ∧
    (t.field.ring = [] ∧ t.field.walk = none ∧ t.field.turn = none ∧ t.field.flde = false ∧ t.field.speed = 38400 ∧
      t.port.reply = none ∧ t.port.due = [] ∧ t.port.waitIdle = false ∧ t.port.lmtxIdle = true ∧ t.port.speed = 115200)

/-- Every agreement of Sys2Proof/Safety.lean holds right after reset: the attention line, the sums of the pot table,
the queues, their order and the slots, the unit records, the setpoint and the demands, the interval and the tariff
tables, the poll ring and the port. -/
def Obligations.ResetIsSafe : Prop :=
  State.reset.Safe

/-! ### The Pot Register -/

/-- From every state whose Pot Register is sound, every step that answers a next state leaves it sound: the four line
sums equal the sums over the table (R23), every owner count equals the number of records that are not VACANT and have
that owner, and is at most 8 (R5); a VACANT record has no owner, voltage 0 and R 0, and every other record an owner 1
to 62 (R4). -/
def Obligations.LineSumsAgreeWithTable : Prop :=
  ∀ s t : State, s.pots.Sound → step s = .next t → t.pots.Sound

/-- R8 to R10: the checks of ADMIT POT in their order, and the record of a pot admitted OUT or IN. That a start hold
end beyond the counter's range is taken modulo 4,294,967,296 is the model's (notes/assumptions/2), and so is the field
confirmStamp (notes/assumptions/8). R11 and R6: RETIRE POT empties an OUT record but for its tag; ASSIGN OWNER moves a
record that is not VACANT. A request that fails the identity checks of R12, or a later check, is answered with the
status of the first that fails, and changes nothing but the load it abandons. -/
def Obligations.AdmitRetireAndAssign : Prop :=
  (∀ (s : State) (p tag owner initial : Nat), s.port.takes = true →
    exec (.admitPot p tag owner initial) s = .next (
      let u := s.abandonLoad
      let out : PotRecord :=
        { circuit := .outOfCircuit, tag := tag, owner := some owner, voltage := 0, reportStamp := s.meter.lineSeconds
          silent := false, resistance := s.current.params.rNom, ae := .none, aeClass := .normal, startStamp := none
          slot := none, settleStamp := none, startHoldEnd := none, aeCount := 0, aeSeconds := 0, overruns := 0
          switch := none, lastSwitch := .none, confirmStamp := none }
      if p < 1 ∨ 384 < p then answered u .noRecord []
      else if (s.pot p).circuit ≠ .vacant then answered u .state []
      else if tag = 0 ∨ tag = (s.pot p).tag ∨ (owner < 1 ∨ 62 < owner) ∨ (initial ≠ 1 ∧ initial ≠ 2) then
        answered u .param []
      else if initial = 1 ∧ s.current.mode ≠ .adopt then answered u .state []
      else if 8 ≤ s.ownerCount owner then answered u .full []
      else if initial = 2 then answered (u.putPot p out) .done []
      else
        answered (u.putPot p
          { out with
            circuit := .inCircuit
            voltage := s.current.params.e0 + s.iMeas * s.current.params.rNom / 100000
            startHoldEnd :=
              if s.current.params.tStartHold = 0 then none
              else some ((s.meter.lineSeconds + s.current.params.tStartHold * 60) % 4294967296) }) .done [])) ∧
  (∀ (s : State) (p tag owner : Nat), s.port.takes = true →
    exec (.retirePot p tag) s = .next (
      let u := s.abandonLoad
      gate s none p tag (fun status => answered u status [])
        (if (s.pot p).circuit = .inCircuit then answered u .state []
        else if (s.pot p).switch ≠ none then answered u .state []
        else answered (u.putPot p { PotRecord.empty with tag := (s.pot p).tag }) .done [])) ∧
    exec (.assignOwner p tag owner) s = .next (
      let u := s.abandonLoad
      gate s none p tag (fun status => answered u status [])
        (if owner < 1 ∨ 62 < owner then answered u .param []
        else if (s.pot p).owner = some owner then answered u .done []
        else if 8 ≤ s.ownerCount owner then answered u .full []
        else answered (u.putPot p { s.pot p with owner := some owner }) .done [])))

/-- R27: the frames of a READ POT RANGE reply, all captured when the request is taken: the images of the range in
ascending position, 11 to a frame, the count over 11 rounded up frames, every frame but the last marked continued
(R196); PARAM for a bad range. -/
def Obligations.RangeReplyCapturesImages : Prop :=
  ∀ (s : State) (first count : Nat), s.port.takes = true →
    (((first < 1 ∨ 384 < first) ∨ count = 0 ∨ 385 < first + count) →
      exec (.readPotRange first count) s = .next (answered s.abandonLoad .param [])) ∧
    ((1 ≤ first ∧ first ≤ 384 ∧ 1 ≤ count ∧ first + count ≤ 385) →
      ∃ one due, exec (.readPotRange first count) s = .next (s.abandonLoad.sendFrames one due) ∧
        (one :: due).length = (count + 10) / 11 ∧
        (∀ r ∈ one :: due, r.link = .ok ∧ r.status = .done ∧ r.payload.length ≤ 22 * 11) ∧
        ((one :: due).dropLast.all fun r => r.continued && r.payload.length == 22 * 11) = true ∧
        (∀ r, (one :: due).getLast? = some r → r.continued = false ∧ r.payload ≠ []) ∧
        (one :: due).flatMap Reply.payload = (List.range' first count).flatMap s.potImage)

/-- R14 and R16: a POT REPORT frame takes its items in order, each whole before the next and each after the checks of
R12, and its reply describes the state after the last. What the two bytes of a setpoint above 65,535 carry is a free
value (notes/assumptions/1). -/
def Obligations.PotReportTakesItemsInOrder : Prop :=
  (∀ (s : State) (turn : Turn) (items : List ReportItem), Window s turn .potNode → items ≠ [] →
    ∃ t statuses payload, State.takeItems turn.address items s.nodeAnswered = (t, statuses) ∧
      statuses.length = items.length ∧
      exec (.potReport items) s = .next (fieldAnswered t
        (if .done ∈ statuses then .done else statuses.headD .done) payload) ∧
      payload = be 2 t.iMeas ++ currentBytes t.current.setpoint ++
        (items.zip statuses).flatMap (fun x =>
          be 2 x.1.position ++ be 1 x.2.code ++
            (if x.2 = .done then
              be 1 (t.pot x.1.position).circuit.code ++ be 1 (t.pot x.1.position).ae.code ++
                be 2 (t.slotOrPlace x.1.position) ++ be 1 (t.pot x.1.position).phaseCode ++
                be 1 (t.pot x.1.position).lastSwitch.code
            else [0, 0, 0, 0, 0, 0])) ∧
      payload.length = 4 + 9 * items.length) ∧
  (∀ (s : State) (node : Nat) (i : ReportItem) (rest : List ReportItem),
    State.takeItems node (i :: rest) s =
      gate s (some node) i.position i.tag
        (fun status => ((State.takeItems node rest s).1, status :: (State.takeItems node rest s).2))
        ((State.takeItems node rest (s.acceptReport i.position i.voltage)).1,
          .done :: (State.takeItems node rest (s.acceptReport i.position i.voltage)).2))

/-- R15, R17, R18, R20: what an accepted report stores, in every line mode and whatever the watch then does: voltage,
stamp, silence and R of the record, its share of the line sums, and nothing of any other record's report fields. A
report of a pot that is not IN stores voltage, stamp and silence, and changes nothing else of the record or of the
block. -/
def Obligations.AcceptedReportStoresVoltageAndR : Prop :=
  ∀ (s : State) (p v : Nat), 1 ≤ p → p ≤ 384 →
    let t := s.acceptReport p v
    let r := s.pot p
    let resistance :=
      if r.circuit ≠ .inCircuit ∨ s.iMeas < s.params.iRmin then r.resistance
      else if v ≤ s.params.e0 then 0
      else min 1000000 ((v - s.params.e0) * 100000 / s.iMeas)
    (t.pot p).voltage = v ∧ (t.pot p).reportStamp = s.now ∧ (t.pot p).silent = false ∧
    (t.pot p).resistance = resistance ∧ (t.pot p).circuit = r.circuit ∧ (t.pot p).tag = r.tag ∧
    (t.pot p).owner = r.owner ∧
    t.pots.nIn = s.pots.nIn ∧ t.pots.nOut = s.pots.nOut ∧
    (r.circuit = .inCircuit →
      t.pots.sumV = s.pots.sumV + v - r.voltage ∧ t.pots.sumR = s.pots.sumR + resistance - r.resistance) ∧
    (r.circuit ≠ .inCircuit → t.pots.sumV = s.pots.sumV ∧ t.pots.sumR = s.pots.sumR ∧
      t = s.putPot p { r with voltage := v, reportStamp := s.now, silent := false } ∧
      t = { s with pots := t.pots } ∧ ∀ q, q ≠ p → t.pot q = s.pot q) ∧
    t.meter = s.meter ∧ t.tariff = s.tariff ∧ t.field = s.field ∧ t.port = s.port ∧
    ∀ q, q ≠ p → (t.pot q).voltage = (s.pot q).voltage ∧ (t.pot q).resistance = (s.pot q).resistance ∧
      (t.pot q).circuit = (s.pot q).circuit ∧ (t.pot q).tag = (s.pot q).tag ∧ (t.pot q).owner = (s.pot q).owner ∧
      (t.pot q).reportStamp = (s.pot q).reportStamp ∧ (t.pot q).silent = (s.pot q).silent

/-! ### Anode Effect Watch -/

/-- R30, R31, R32, R35: the reports that change at most the pot's own watch fields: a start, a return to NONE, and the
reports that decide nothing. A start hold that has run out holds nothing, whether or not its examination has been
taken; which ends are still ahead is read modulo 4,294,967,296, the model's (notes/assumptions/9). -/
def Obligations.WatchDecidesReport : Prop :=
  ∀ (s : State) (p v : Nat), 1 ≤ p → p ≤ 384 → (s.pot p).circuit = .inCircuit →
    let r := reported s p v
    (s.current.mode = .adopt → s.acceptReport p v = s.putPot p r) ∧
    (s.current.mode ≠ .adopt →
      ((s.pot p).ae = .none → held (s.pot p) s.now = true → s.acceptReport p v = s.putPot p r) ∧
      ((s.pot p).ae = .none → held (s.pot p) s.now = false → v < s.params.vAe →
        s.acceptReport p v = s.putPot p r) ∧
      ((s.pot p).ae = .none → held (s.pot p) s.now = false → s.params.vAe ≤ v →
        s.acceptReport p v = s.putPot p
          { r with ae := .suspect, aeClass := .normal, startStamp := some s.now, startHoldEnd := none }) ∧
      ((s.pot p).ae = .suspect → v < s.params.vAe →
        s.acceptReport p v = s.putPot p { r with ae := .none, startStamp := none }) ∧
      ((s.pot p).ae = .suspect → s.params.vAe ≤ v → s.startAge p < s.params.tConfirm →
        s.acceptReport p v = s.putPot p r) ∧
      ((s.pot p).ae ≠ .none → (s.pot p).ae ≠ .suspect → s.params.vAeEnd ≤ v → s.acceptReport p v = s.putPot p r))

/-- R33 and R34: a confirmation makes the pot WAITING, counts the effect, cancels the pot's switch record, places the
pot in the quench queue, raises AE CONFIRMED and runs the grant evaluation, in this order; the pot is then in the
quench queue or, where the evaluation granted it, in a slot that was FREE. The field confirmStamp is the model's own
(notes/assumptions/8). -/
def Obligations.ConfirmationQueuesPot : Prop :=
  ∀ (s : State) (p v : Nat), 1 ≤ p → p ≤ 384 → (s.pot p).circuit = .inCircuit → s.current.mode ≠ .adopt →
    (s.pot p).ae = .suspect → s.params.vAe ≤ v → s.params.tConfirm ≤ s.startAge p →
    s.quench.queue.Nodup → p ∉ s.quench.queue → s.switching.queue.Nodup →
    let t := s.acceptReport p v
    (t.pot p).aeCount = min ((s.pot p).aeCount + 1) 255 ∧ (t.pot p).aeClass = (s.pot p).aeClass ∧
    (t.pot p).startStamp = (s.pot p).startStamp ∧ (t.pot p).aeSeconds = (s.pot p).aeSeconds ∧
    (t.pot p).switch = none ∧
    (t.pot p).lastSwitch = (if (s.pot p).switch = none then (s.pot p).lastSwitch else .aeCancelled) ∧
    ((s.pot p).switch ≠ none → p ∉ t.switching.queue) ∧ ((s.pot p).switch = none → t.switching = s.switching) ∧
    t.attention.source 10 = (s.attention.source 10).raised p ∧
    (∀ c, c ≠ 10 → c ≠ 2 → t.attention.source c = s.attention.source c) ∧
    (((t.pot p).ae = .waiting ∧ p ∈ t.quench.queue) ∨
      ((t.pot p).ae = .quenching ∧ p ∉ t.quench.queue ∧
        ∃ k, (t.pot p).slot = some k ∧ t.slot k = some ⟨p, s.now⟩ ∧ s.slot k = none)) ∧
    (∀ q, q ≠ p → q ∉ s.quench.queue → q ∉ s.switching.queue → t.pot q = s.pot q) ∧ t.meter = s.meter ∧
    t.tariff = s.tariff ∧ t.field = s.field ∧ t.port = s.port ∧
    (let confirmed := s.putPot p
      { reported s p v with
        ae := .waiting, aeCount := min ((s.pot p).aeCount + 1) 255, confirmStamp := some s.now }
    let cancelled := if (s.pot p).switch = none then confirmed else confirmed.endSwitch p .aeCancelled
    t = ((cancelled.enterQuenchQueue p).raise .aeConfirmed p).grantEvaluation)

/-- R36: a report below V_AE_end ends an anode effect: the pot's place in the queue or its slot is released, the
duration is credited, and the AE state is NONE. Where it held a slot, the grant evaluation that follows the release
runs before the duration is credited, on the voltage and R just stored. -/
def Obligations.EffectEndsBelowThreshold : Prop :=
  ∀ (s : State) (p v : Nat), 1 ≤ p → p ≤ 384 → (s.pot p).circuit = .inCircuit → s.current.mode ≠ .adopt →
    ((s.pot p).ae = .waiting ∨ (s.pot p).ae = .quenching ∨ (s.pot p).ae = .settling) → v < s.params.vAeEnd →
    s.quench.queue.Nodup → (p ∈ s.quench.queue ↔ (s.pot p).ae = .waiting) →
    ((s.pot p).slot ≠ none ↔ (s.pot p).ae = .quenching) → ((s.pot p).settleStamp ≠ none ↔ (s.pot p).ae = .settling) →
    (∀ k ∈ [1, 2, 3, 4], ((s.slot k).map HeldSlot.position = some p ↔ (s.pot p).slot = some k)) →
    let t := s.acceptReport p v
    (t.pot p).ae = .none ∧ (t.pot p).aeClass = .normal ∧ (t.pot p).startStamp = none ∧ (t.pot p).slot = none ∧
    (t.pot p).settleStamp = none ∧ (t.pot p).aeCount = (s.pot p).aeCount ∧
    (t.pot p).aeSeconds = min ((s.pot p).aeSeconds + s.startAge p) 65535 ∧
    p ∉ t.quench.queue ∧ (∀ k, (t.slot k).map HeldSlot.position ≠ some p) ∧
    (∀ c, c ≠ 2 → t.attention.source c = s.attention.source c) ∧
    ((s.pot p).ae ≠ .quenching → t.quench.slots = s.quench.slots ∧ t.quench.queue = s.quench.queue.erase p) ∧
    (∀ q, q ≠ p → q ∉ s.quench.queue → t.pot q = s.pot q) ∧ t.switching = s.switching ∧ t.meter = s.meter ∧
    t.tariff = s.tariff ∧ t.field = s.field ∧ t.port = s.port ∧
    (∀ k, (s.pot p).slot = some k →
      t = (let released := ((s.putSlot k none).putPot p { reported s p v with slot := none }).grantEvaluation
        released.putPot p
          { released.pot p with
            ae := .none, aeClass := .normal, startStamp := none, confirmStamp := none
            aeSeconds := min ((s.pot p).aeSeconds + s.startAge p) 65535 }))

/-- R19, R31, R37, R55, R56: the examinations of a pot record or a slot after an advance, each with its effect where
it is due and none where it is not; a settle expiry and a permit expiry are followed by one grant evaluation. These
are the model's: the examination as a command of its own (notes/assumptions/6), the parameters latched at the advance
(7), the stamp that keeps a pot confirmed in this line-second from escalating (8), and the reading of a start hold end
as ahead or reached modulo 4,294,967,296 (9). -/
def Obligations.TimersExamineOneRecord : Prop :=
  (∀ (s : State) (p : Nat),
    exec (.potSilence p) s = .next (
      if (s.pot p).circuit ≠ .vacant ∧ (s.pot p).silent = false ∧
          s.meter.atAdvance.tPotSilent < age s.meter.lineSeconds (s.pot p).reportStamp then
        (s.putPot p { s.pot p with silent := true }).raise .potSilent p
      else s) ∧
    exec (.startHoldExpiry p) s = .next (
      if (s.pot p).startHoldEnd ≠ none ∧ held (s.pot p) s.meter.lineSeconds = false then
        s.putPot p { s.pot p with startHoldEnd := none }
      else s) ∧
    exec (.escalation p) s = .next (
      let raised := (s.putPot p { s.pot p with aeClass := .escalated }).raise .aeEscalated p
      if ((s.pot p).ae = .waiting ∨ (s.pot p).ae = .quenching ∨ (s.pot p).ae = .settling) ∧
          (s.pot p).aeClass = .normal ∧ (s.pot p).confirmStamp ≠ some s.meter.lineSeconds ∧
          (s.pot p).startStamp ≠ none ∧ s.meter.atAdvance.tEsc ≤ s.startAge p then
        (if (s.pot p).ae = .waiting then ((raised.leaveQuenchQueue p).enterQuenchQueue p).grantEvaluation else raised)
      else s)) ∧
  (∀ (s : State) (p stamp : Nat), (s.pot p).ae = .settling → (s.pot p).settleStamp = some stamp →
    exec (.settleExpiry p) s = .next (
      if s.meter.atAdvance.tSettle ≤ age s.meter.lineSeconds stamp then
        ((s.putPot p { s.pot p with ae := .waiting, aeClass := .escalated, settleStamp := none }).enterQuenchQueue
          p).grantEvaluation
      else s)) ∧
  (∀ (s : State) (p : Nat), (s.pot p).ae ≠ .settling → exec (.settleExpiry p) s = .next s) ∧
  (∀ (s : State) (k p stamp : Nat), s.slot k = some ⟨p, stamp⟩ →
    exec (.permitExpiry k) s = .next (
      if s.meter.atAdvance.tQuench ≤ age s.meter.lineSeconds stamp then
        ((((s.putSlot k none).putPot p
          { s.pot p with
            ae := .waiting, slot := none, overruns := min ((s.pot p).overruns + 1) 255 }).raise .quenchOverrun
          p).enterQuenchQueue p).grantEvaluation
      else s)) ∧
  (∀ (s : State) (k : Nat), s.slot k = none → exec (.permitExpiry k) s = .next s)

/-! ### Quench Permits -/

/-- R44 and R45: a pot placed in an ordered queue leaves it ordered, by class, then the older start stamp, then the
lower position, and every other entry stays. That the older stamp is the one of greater age is the model's
(notes/assumptions/3). -/
def Obligations.PlacementKeepsQueueOrder : Prop :=
  ∀ (s : State) (p : Nat), p ∉ s.quench.queue →
    let ahead := fun a b : Nat =>
      ((s.pot a).aeClass = .escalated ∧ (s.pot b).aeClass = .normal) ∨
        ((s.pot a).aeClass = (s.pot b).aeClass ∧
          (s.startAge b < s.startAge a ∨ (s.startAge a = s.startAge b ∧ a < b)))
    s.quench.queue.Pairwise ahead →
    (s.enterQuenchQueue p).quench.queue.Pairwise ahead ∧
      (s.enterQuenchQueue p).quench.queue.Perm (p :: s.quench.queue) ∧
      (s.enterQuenchQueue p).quench.queue.erase p = s.quench.queue

/-- R48 to R51: a grant evaluation grants the leading entries in queue order and ends where the queue is empty, no
slot is FREE or the test of R49 fails, where it changes nothing. Where the head passes the test it is the grant of the
lowest-numbered FREE slot to the head, whose fourth step is an event evaluation, followed by the evaluation of what is
left. Slots that are HELD stay. -/
def Obligations.GrantEvaluationServesTheHead : Prop :=
  (∀ s : State,
    let t := s.grantEvaluation
    (∃ n, n ≤ 4 ∧ t.quench.queue = s.quench.queue.drop n) ∧
    (t.quench.queue = [] ∨ (∀ k ∈ [1, 2, 3, 4], t.slot k ≠ none) ∨
      (t.heldSlots ≠ 0 ∧ vlim t (t.heldSlots + 1) < t.params.iFloor)) ∧
    (∀ k, s.slot k ≠ none → t.slot k = s.slot k) ∧ (∀ q, q ∉ s.quench.queue → t.pot q = s.pot q) ∧
    t = { s with
      pots := t.pots, quench := t.quench, units := t.units, attention := t.attention
      current := { s.current with
        setpoint := t.current.setpoint, governing := t.current.governing, limits := t.current.limits } } ∧
    t.pots.nIn = s.pots.nIn ∧ t.pots.nOut = s.pots.nOut ∧ t.pots.sumR = s.pots.sumR ∧ t.pots.sumV = s.pots.sumV) ∧
  (∀ (s : State) (p k : Nat) (rest : List Nat), 1 ≤ p → p ≤ 384 → 1 ≤ k → k ≤ 4 → s.quench.queue = p :: rest →
    p ∉ rest → s.slot k = none → (∀ j ∈ [1, 2, 3, 4], j < k → s.slot j ≠ none) →
    (s.heldSlots = 0 ∨ s.params.iFloor ≤ vlim s (s.heldSlots + 1)) →
    let t := s.grantEvaluation
    t.pot p = { s.pot p with ae := .quenching, slot := some k } ∧ t.slot k = some ⟨p, s.now⟩ ∧
      p ∉ t.quench.queue) ∧
  (∀ (s : State) (p k : Nat) (rest : List Nat), 1 ≤ k → k ≤ 4 → s.quench.queue = p :: rest →
    s.slot k = none → (∀ j ∈ [1, 2, 3, 4], j < k → s.slot j ≠ none) →
    (s.heldSlots = 0 ∨ s.params.iFloor ≤ vlim s (s.heldSlots + 1)) →
    s.grantEvaluation = (granted s p k).grantEvaluation) ∧
  (∀ s : State, (s.quench.queue = [] ∨ (∀ k ∈ [1, 2, 3, 4], s.slot k ≠ none) ∨
      (s.heldSlots ≠ 0 ∧ vlim s (s.heldSlots + 1) < s.params.iFloor)) →
    s.grantEvaluation = s)

/-- R52, R53: QUENCH END from the node that holds the turn: the refusals in their order, and the served request, which
frees the slot, makes the pot SETTLING and runs one grant evaluation; the reply describes the state after it (R190).
-/
def Obligations.QuenchEndFreesSlot : Prop :=
  ∀ (s : State) (turn : Turn) (p tag : Nat), Window s turn .potNode →
    exec (.quenchEnd p tag) s = .next (
      let u := s.nodeAnswered
      let kept := be 1 (s.pot p).ae.code ++ be 2 (s.slotOrPlace p)
      gate s (some turn.address) p tag (fun status => fieldAnswered u status [0, 0, 0])
        (if s.current.mode = .adopt then fieldAnswered u .notReady kept
        else if (s.pot p).ae ≠ .quenching then fieldAnswered u .late kept
        else
          let freed := match (s.pot p).slot with
            | some k => u.putSlot k none
            | none => u
          let t := (freed.putPot p
            { s.pot p with ae := .settling, slot := none, settleStamp := some s.now }).grantEvaluation
          fieldAnswered t .done (be 1 (t.pot p).ae.code ++ be 2 (t.slotOrPlace p))))

/-- From every state whose queues are sound, every step that answers a next state leaves them sound: the quench queue
holds exactly the WAITING pots, each once (R44); HELD slots and QUENCHING pots name each other (R46); the switch queue
holds exactly the pots with a switch record, each once and at most 8, only in RUN, its head RAMPING or OPEN and the
rest QUEUED (R64, R69); and the optional fields of every record stand as its AE state allows (R28). -/
def Obligations.QueuesAndSlotsMatchRecords : Prop :=
  ∀ s t : State, s.QueuesSound → step s = .next t → t.QueuesSound

/-- From every state whose queues are sound and whose quench queue stands in the order of R44, every step that answers
a next state leaves it in that order: ESCALATED before NORMAL, then the older start stamp, then the lower position.
The premise on the stamps asks that no queued effect reaches the age of 4,294,967,296 s, at which its age returns to
0. That the older stamp is the one of greater age is the model's (notes/assumptions/3). -/
def Obligations.QuenchQueueStaysOrdered : Prop :=
  ∀ s t : State, s.QueuesSound → s.QueueOrdered → s.meter.lineSeconds < 4294967296 →
    (∀ p ∈ s.quench.queue, ∀ stamp, (s.pot p).startStamp = some stamp →
      stamp < 4294967296 ∧ s.startAge p < 4294967295) →
    step s = .next t → t.QueueOrdered

/-! ### Pot Switching -/

/-- R66, R67: the checks of SWITCH REQUEST in their order, and an accepted request, which imposes the ceiling by an
event evaluation where the queue was empty (R68). -/
def Obligations.SwitchRequestJoinsQueue : Prop :=
  ∀ (s : State) (turn : Turn) (p tag d : Nat), Window s turn .potNode →
    exec (.switchRequest p tag d) s = .next (
      let u := s.nodeAnswered
      let joined := fun direction phase =>
        (u.putPot p { s.pot p with switch := some ⟨direction, phase, s.now⟩ }).withSwitchQueue (s.switching.queue ++ [p])
      let refused := fun status => fieldAnswered u status [0, 0]
      let direction : Direction := if d = 1 then .cutIn else .cutOut
      gate s (some turn.address) p tag refused
        (if d ≠ 1 ∧ d ≠ 2 then refused .param
        else if s.current.mode = .adopt then refused .notReady
        else if s.current.mode = .hold then refused .state
        else if d = 1 ∧ (s.pot p).circuit ≠ .outOfCircuit ∨ d = 2 ∧ (s.pot p).circuit ≠ .inCircuit then refused .state
        else if (s.pot p).ae ≠ .none then refused .state
        else if (s.pot p).switch ≠ none then refused .busy
        else if 8 ≤ s.switching.queue.length then refused .full
        else if s.switching.queue = [] then
          let t := (joined direction .ramping).eventEvaluation
          fieldAnswered t .done (be 1 (t.switching.queue.idxOf p + 1) ++ be 1 (t.pot p).phaseCode)
        else
          let t := joined direction .queued
          fieldAnswered t .done (be 1 (t.switching.queue.idxOf p + 1) ++ be 1 (t.pot p).phaseCode)))

/-- R65: a switch record that leaves from behind the head leaves the head and every other record as they are; from the
head with entries behind it, the second becomes head, RAMPING with the present stamp, and the further ones stay;
alone, it leaves the queue empty and the ceiling lifted. -/
def Obligations.SwitchQueueAdvances : Prop :=
  ∀ (s : State) (p : Nat) (result : SwitchResult), 1 ≤ p → p ≤ 384 → s.switching.queue.Nodup →
    (∀ q ∈ s.switching.queue, 1 ≤ q ∧ q ≤ 384) →
    let t := s.endSwitch p result
    t = { s with pots := t.pots, switching := t.switching } ∧
    t.pot p = { s.pot p with switch := none, lastSwitch := result } ∧
    (∀ h rest, s.switching.queue = h :: rest → h ≠ p →
      t.switching.queue = h :: rest.erase p ∧ ∀ q, q ≠ p → t.pot q = s.pot q) ∧
    (∀ n rest, s.switching.queue = p :: n :: rest →
      t.switching.queue = n :: rest ∧
      t.pot n = { s.pot n with
        switch := (s.pot n).switch.map fun w => { w with phase := .ramping, stamp := s.now } } ∧
      ∀ q, q ≠ p → q ≠ n → t.pot q = s.pot q) ∧
    (s.switching.queue = [p] → t.switching.queue = [] ∧ t.iSw = 65535 ∧ ∀ q, q ≠ p → t.pot q = s.pot q)

/-- R73, R74, R21, R22: SWITCH DONE in an open window completes the cut-in or the cut-out, and is refused otherwise.
That a start hold end beyond the counter's range is taken modulo 4,294,967,296 is the model's (notes/assumptions/2).
R77, R71, R75: a cancellation in any phase, a ramp failure and a window expiry, each of which takes the record out and
advances the queue. The two timers as commands of their own, with the limits latched at the advance, are the model's
(notes/assumptions/6 and 7). -/
def Obligations.SwitchOperationsEnd : Prop :=
  (∀ (s : State) (turn : Turn) (p tag : Nat), Window s turn .potNode →
    exec (.switchDone p tag) s = .next (
      let u := s.nodeAnswered
      gate s (some turn.address) p tag (fun status => fieldAnswered u status [0])
        (match (s.pot p).switch with
        | none => fieldAnswered u .late (be 1 (s.pot p).circuit.code)
        | some w =>
          if w.phase ≠ .opened then fieldAnswered u .state (be 1 (s.pot p).circuit.code)
          else
            let moved : PotRecord :=
              if w.direction = .cutIn then
                { s.pot p with
                  circuit := .inCircuit
                  voltage := s.current.params.e0 + s.iMeas * s.current.params.rNom / 100000
                  resistance := s.current.params.rNom
                  startHoldEnd :=
                    if s.current.params.tStartHold = 0 then none
                    else some ((s.meter.lineSeconds + s.current.params.tStartHold * 60) % 4294967296) }
              else
                { s.pot p with
                  circuit := .outOfCircuit, voltage := 0, ae := .none, aeClass := .normal, startStamp := none
                  startHoldEnd := none }
            let t := ((u.putPot p moved).endSwitch p .completed).raise .switchCompleted p
            fieldAnswered t .done (be 1 (t.pot p).circuit.code)))) ∧
  (∀ (s : State) (turn : Turn) (p tag : Nat), Window s turn .potNode →
    exec (.switchCancel p tag) s = .next (
      let u := s.nodeAnswered
      gate s (some turn.address) p tag (fun status => fieldAnswered u status [0])
        (if (s.pot p).switch = none then fieldAnswered u .late (be 1 (s.pot p).circuit.code)
        else fieldAnswered (u.endSwitch p .cancelled) .done (be 1 ((u.endSwitch p .cancelled).pot p).circuit.code)))) ∧
  (∀ (s : State) (p : Nat) (rest : List Nat) (w : SwitchRecord), s.switching.queue = p :: rest →
    (s.pot p).switch = some w →
    exec .rampFailure s = .next (
      if w.phase = .ramping ∧ s.meter.atAdvance.tRampFail ≤ age s.meter.lineSeconds w.stamp then
        (s.endSwitch p .rampFailed).raise .switchExpired p
      else s) ∧
    exec .windowExpiry s = .next (
      if w.phase = .opened ∧ s.meter.atAdvance.tWindow ≤ age s.meter.lineSeconds w.stamp then
        (s.endSwitch p .expired).raise .switchExpired p
      else s)) ∧
  (∀ s : State, s.switching.queue = [] → exec .rampFailure s = .next s ∧ exec .windowExpiry s = .next s)

/-- R70: at a dispatch cycle in RUN a RAMPING head opens where I_meas is at most I_ceiling, and every other switch
record stands. -/
def Obligations.WindowOpensOnMeasuredCurrent : Prop :=
  ∀ (s : State) (arbiterFirst : Bool), ∃ t, exec (.dispatchCycle arbiterFirst) s = .next t ∧
    t.switching = s.switching ∧
    ∀ q, 1 ≤ q → q ≤ 384 →
      (t.pot q).switch =
        (if s.switching.queue.head? = some q ∧ s.current.mode = .run ∧ s.iMeas ≤ s.params.iCeiling then
          (s.pot q).switch.map fun w => if w.phase = .ramping then { w with phase := .opened, stamp := s.now } else w
        else (s.pot q).switch)

/-! ### Rectifier Units and Cooling -/

/-- R84, R92, R93, R95, R99: DEFINE UNIT with its checks in their order and the record it makes; TRIP UNIT, which
trips a SERVING unit with cause LINE_MASTER; RESTORE UNIT, which returns a cooled LOCKED unit to IDLE; REMOVE UNIT,
which makes an IDLE, LOCKED or LOST unit ABSENT; STATE in every other state. -/
def Obligations.UnitRequestsFollowState : Prop :=
  (∀ (s : State) (u node rated vMax tDerate tTrip : Nat), s.port.takes = true →
    exec (.defineUnit u node rated vMax tDerate tTrip) s = .next (
      let v := s.abandonLoad
      if u < 1 ∨ 8 < u then answered v .param []
      else if (s.unit u).state ≠ .absent then answered v .state []
      else if (node < 1 ∨ 62 < node) ∨ rated = 0 ∨ (vMax < 100000 ∨ 4000000 < vMax) ∨ 1500 < tTrip ∨ tTrip ≤ tDerate then
        answered v .param []
      else if ([1, 2, 3, 4, 5, 6, 7, 8].any fun w => (s.unit w).state != .absent && (s.unit w).node == node) = true then
        answered v .busy []
      else
        answered (v.putUnit u
          { state := .idle, node := node, rated := rated, vMax := vMax, tDerate := tDerate, tTrip := tTrip, measured := 0
            temperature := 0, flowOk := true, breakerClosed := false, reportStamp := s.meter.lineSeconds
            flowLossStamp := none, silent := false, capacity := 0, derated := false, demand := 0, frozen := false
            tripCause := .none }).eventEvaluation .done [])) ∧
  (∀ (s : State) (u : Nat), s.port.takes = true →
    exec (.tripUnit u) s = .next (
      let v := s.abandonLoad
      if u < 1 ∨ 8 < u then answered v .param []
      else if (s.unit u).state ≠ .serving then answered v .state []
      else
        answered ((v.putUnit u
          { s.unit u with
            state := .tripping, tripCause := .lineMaster, flowLossStamp := none, frozen := false, demand := 0
            capacity := 0, derated := false }).raise .unitTrip u).eventEvaluation .done [])) ∧
  (∀ (s : State) (u : Nat), s.port.takes = true →
    exec (.restoreUnit u) s = .next (
      let v := s.abandonLoad
      if u < 1 ∨ 8 < u then answered v .param []
      else if (s.unit u).state ≠ .locked then answered v .state []
      else if (s.unit u).tDerate ≤ (s.unit u).temperature ∨ (s.unit u).flowOk = false then answered v .state []
      else answered (v.putUnit u { s.unit u with state := .idle, tripCause := .none }).eventEvaluation .done []) ∧
    exec (.removeUnit u) s = .next (
      let v := s.abandonLoad
      if u < 1 ∨ 8 < u then answered v .param []
      else if (s.unit u).state = .idle ∨ (s.unit u).state = .locked ∨ (s.unit u).state = .lost then
        answered (v.putUnit u UnitRecord.empty).eventEvaluation .done []
      else answered v .state []))

/-- R86, R88: the checks of UNIT REPORT and the reply: the unit's state, its command and its demand after the event.
R92, R90, R104: an accepted report raises UNIT TRIP and UNIT DERATED where they are called for, and calls for an event
evaluation where the unit's state, its silence while SERVING or its capacity while eligible changed, and for none
otherwise. These are the model's readings: that the end of a TRIPPING unit's silence calls for none
(notes/assumptions/18), and that a unit which enters SERVING and is tripped by the same report raises no UNIT DERATED
(notes/assumptions/27). -/
def Obligations.UnitReportIsServed : Prop :=
  (∀ (s : State) (turn : Turn) (u measured temperature : Nat) (flowOk closed : Bool), Window s turn .unitNode →
    exec (.unitReport u measured temperature flowOk closed) s = .next (
      let v := s.nodeAnswered
      if u < 1 ∨ 8 < u then fieldAnswered v .noRecord [0, 0, 0, 0]
      else if (s.unit u).state = .absent then fieldAnswered v .noRecord [0, 0, 0, 0]
      else if (s.unit u).node ≠ turn.address then fieldAnswered v .owner [0, 0, 0, 0]
      else
        let t := v.acceptUnitReport u measured temperature flowOk closed
        let command :=
          if (t.unit u).state = .tripping ∨ (t.unit u).state = .locked then 2
          else if s.current.mode = .adopt then 3 else 1
        fieldAnswered t .done (be 1 (t.unit u).state.code ++ be 1 command ++ be 2 (t.unit u).demand))) ∧
  (∀ (s : State) (u measured temperature : Nat) (flowOk closed : Bool), 1 ≤ u → u ≤ 8 →
    let r' := s.reportedUnit (s.unit u) measured temperature flowOk closed
    let first :=
      if r'.state = .tripping ∧ (s.unit u).state ≠ .tripping ∧ r'.tripCause = .temperature ∧
          ((s.unit u).state = .lost → (s.unit u).tripCause = .none)
      then (s.putUnit u r').raise .unitTrip u else s.putUnit u r'
    let raised := if (s.unit u).derated = false ∧ r'.derated = true then first.raise .unitDerated u else first
    s.acceptUnitReport u measured temperature flowOk closed =
      (if r'.state ≠ (s.unit u).state ∨ (r'.state = .serving ∧ (s.unit u).silent = true) ∨
          (r'.state = .serving ∧ r'.capacity ≠ (s.unit u).capacity)
      then raised.eventEvaluation else raised))

/-- R87 steps 1 to 7, R89, R91, R98: the record of a unit after an accepted report: the stored fields, the state by
the reported breaker position and temperature, the flow-loss stamp of a SERVING unit, the capacity, and in ADOPT the
demand of a SERVING unit, its measured current. -/
def Obligations.UnitReportMovesState : Prop :=
  ∀ (s : State) (u measured temperature : Nat) (flowOk closed : Bool), 1 ≤ u → u ≤ 8 → (s.unit u).state ≠ .absent →
    let t := s.acceptUnitReport u measured temperature flowOk closed
    let r := s.unit u
    let r' := t.unit u
    let kept := min temperature 1500
    let byBreaker : UnitState := match r.state, closed with
      | .idle, true => .serving
      | .serving, false => .idle
      | .tripping, false => .locked
      | .lost, true => if r.tripCause = .none then .serving else .tripping
      | .lost, false => if r.tripCause = .none then .idle else .locked
      | state, _ => state
    let heat := byBreaker = .serving ∧ r.tTrip ≤ kept
    let full := if kept ≤ r.tDerate then r.rated else r.rated * (r.tTrip - kept) / (r.tTrip - r.tDerate)
    r'.measured = measured ∧ r'.temperature = kept ∧ r'.flowOk = flowOk ∧ r'.breakerClosed = closed ∧
    r'.reportStamp = s.meter.lineSeconds ∧ r'.silent = false ∧
    (heat → r'.state = .tripping ∧ r'.tripCause = .temperature ∧ r'.demand = 0) ∧
    (¬heat → r'.state = byBreaker ∧ r'.tripCause = r.tripCause) ∧
    (r'.state = .serving → r'.flowLossStamp =
      (if flowOk then none else some (r.flowLossStamp.getD s.meter.lineSeconds))) ∧
    (r'.state = .serving → r.tDerate < r.tTrip → r'.capacity = (if flowOk then full else full / 2)) ∧
    (r'.state ≠ .serving → r'.capacity = 0 ∧ r'.derated = false) ∧
    (s.current.mode = .adopt → r'.state = .serving → r'.demand = measured) ∧
    (r.state = .serving → r'.state ≠ .serving → r'.demand = 0) ∧
    (r'.derated = true ↔ r'.state = .serving ∧ r'.capacity < r'.rated) ∧
    r'.node = r.node ∧ r'.rated = r.rated ∧ r'.vMax = r.vMax ∧ r'.tDerate = r.tDerate ∧ r'.tTrip = r.tTrip ∧
    (∀ w, w ≠ u → t.unit w = { s.unit w with demand := (t.unit w).demand }) ∧ t.pots = s.pots ∧ t.quench = s.quench ∧
    t.switching = s.switching ∧ t.meter = s.meter ∧ t.tariff = s.tariff ∧ t.field = s.field ∧ t.port = s.port

/-- R91, R96, R97: the examinations of a unit record after an advance, each with its effect where it is due and none
where it is not. These are the model's choices: the examination as a command of its own (notes/assumptions/6), the
limits latched at the advance (notes/assumptions/7), and that the examination of silence acts also on a unit whose age
is past T_unit_lost (notes/assumptions/19). -/
def Obligations.UnitTimersExamineRecord : Prop :=
  ∀ (s : State) (u : Nat),
    let r := s.unit u
    exec (.flowGraceExpiry u) s = .next (
      match r.flowLossStamp with
      | some stamp =>
        if r.state = .serving ∧ s.meter.atAdvance.tFlowGrace ≤ age s.meter.lineSeconds stamp then
          ((s.putUnit u
            { r with
              state := .tripping, tripCause := .flow, flowLossStamp := none, frozen := false, demand := 0, capacity := 0
              derated := false }).raise .unitTrip u).eventEvaluation
        else s
      | none => s) ∧
    exec (.unitSilence u) s = .next (
      if (r.state = .serving ∨ r.state = .tripping) ∧ r.silent = false ∧
          s.meter.atAdvance.tUnitSilent < age s.meter.lineSeconds r.reportStamp then
        (if r.state = .serving then (s.putUnit u { r with silent := true, frozen := true }).eventEvaluation
        else s.putUnit u { r with silent := true })
      else s) ∧
    exec (.unitLoss u) s = .next (
      if (r.state = .serving ∨ r.state = .tripping) ∧
          s.meter.atAdvance.tUnitLost < age s.meter.lineSeconds r.reportStamp then
        ((s.putUnit u
          { r with
            state := .lost, silent := false, frozen := false, flowLossStamp := none, demand := 0, capacity := 0
            derated := false }).raise .unitTrip u).eventEvaluation
      else s)

/-- R101 to R103: I_meas, V_cap and I_cap as the unit records stand. -/
def Obligations.LineQuantitiesOfUnits : Prop :=
  ∀ s : State,
    let units := [1, 2, 3, 4, 5, 6, 7, 8].map s.unit
    s.iMeas = min 65535
      ((units.filter fun r => r.state = .serving ∨ r.state = .tripping).map UnitRecord.measured).sum ∧
    ((∀ r ∈ units, r.state ≠ .serving) → s.vCap = 0) ∧
    (∀ r ∈ units, r.state = .serving → s.vCap ≤ r.vMax) ∧
    ((∃ r ∈ units, r.state = .serving) → ∃ r ∈ units, r.state = .serving ∧ s.vCap = r.vMax) ∧
    s.iCap = min 65535
      (((units.filter fun r => r.state = .serving ∧ r.silent = false).map UnitRecord.capacity).sum +
        ((units.filter fun r => r.state = .serving ∧ r.silent = true).map UnitRecord.demand).sum)

/-- From every state whose unit records are sound, every step that answers a next state leaves them sound: an ABSENT
unit is an empty record (R83); demand, capacity and the flow-loss stamp stand only in SERVING, silence only in SERVING
and TRIPPING; the demand is frozen exactly in a silent SERVING unit; capacity is at most the rating and derated says
when it is less (R89); a trip cause stands with TRIPPING and LOCKED and not with IDLE and SERVING (R92); the
definition is in its ranges and no two defined units share a node (R84). -/
def Obligations.UnitRecordsStaySound : Prop :=
  ∀ s t : State, s.UnitsSound → step s = .next t → t.UnitsSound

/-! ### Line Current Setpoint and Dispatch -/

/-- R116, R117, R118: the limits of an evaluation, I_lim as the least of the five, and the name of the first limit in
the order of R118 that equals it, each of the six names exactly where it is due: REQUEST where none of the other names
is, and I_lim is then the target. -/
def Obligations.ChainLimitNamesFirstEqual : Prop :=
  ∀ s : State, (s.meter.governor.state = .off → s.meter.governor.iDlim = 65535) →
    let l := s.limitsNow
    l.iCap = s.iCap ∧ l.iVlim = vlim s s.heldSlots ∧ l.iDlim = s.meter.governor.iDlim ∧
    l.floored = max s.meter.governor.iDlim s.params.iFloor ∧
    l.iSw = (if s.switching.queue = [] then 65535 else s.params.iCeiling) ∧
    l.iLim ≤ s.current.target ∧ l.iLim ≤ l.iCap ∧ l.iLim ≤ l.iVlim ∧ l.iLim ≤ l.floored ∧ l.iLim ≤ l.iSw ∧
    (l.iLim = s.current.target ∨ l.iLim = l.iCap ∨ l.iLim = l.iVlim ∨ l.iLim = l.floored ∨ l.iLim = l.iSw) ∧
    (let limiting := s.meter.governor.state = .limiting
    (s.chainLimit l = .switching ↔ s.switching.queue ≠ [] ∧ l.iSw = l.iLim) ∧
    (s.chainLimit l = .capacity ↔ ¬(s.switching.queue ≠ [] ∧ l.iSw = l.iLim) ∧ l.iCap = l.iLim) ∧
    (s.chainLimit l = .voltage ↔
      ¬(s.switching.queue ≠ [] ∧ l.iSw = l.iLim) ∧ l.iCap ≠ l.iLim ∧ l.iVlim = l.iLim) ∧
    (s.chainLimit l = .floor ↔ ¬(s.switching.queue ≠ [] ∧ l.iSw = l.iLim) ∧ l.iCap ≠ l.iLim ∧ l.iVlim ≠ l.iLim ∧
      limiting ∧ l.floored = l.iLim ∧ l.iDlim < s.params.iFloor) ∧
    (s.chainLimit l = .demand ↔ ¬(s.switching.queue ≠ [] ∧ l.iSw = l.iLim) ∧ l.iCap ≠ l.iLim ∧ l.iVlim ≠ l.iLim ∧
      limiting ∧ l.floored = l.iLim ∧ s.params.iFloor ≤ l.iDlim) ∧
    (s.chainLimit l = .request ↔ ¬(s.switching.queue ≠ [] ∧ l.iSw = l.iLim) ∧ l.iCap ≠ l.iLim ∧ l.iVlim ≠ l.iLim ∧
      ¬(limiting ∧ l.floored = l.iLim)) ∧
    (s.chainLimit l = .request → s.current.target = l.iLim))

/-- R113: an event evaluation is the evaluation that is not of a dispatch cycle. R111, R120 to R123: an evaluation, at
a dispatch cycle or at an event, stores its limits, moves the setpoint by the rule of the line mode, to F where I_lim
is below it, and names the governing limit (VOLTAGE LIMIT as R119 says); a DISPATCH CYCLE makes such an evaluation and
runs the grant evaluation of the Quench Arbiter, in either order (R48, R112), and compares the head of the switch
queue (R70): where a slot is FREE and the head of the quench queue passes the test of R49, the cycle grants it that
slot; where the queue is empty, no slot is FREE or the test fails, the cycle leaves the queue, the slots, the mode and
the parameters. The order as the command's operand (notes/assumptions/10) and the divider held in half seconds and
moved by DISPATCH CYCLE (notes/assumptions/11) are the model's choices. -/
def Obligations.EvaluationMovesSetpoint : Prop :=
  (∀ s : State, s.eventEvaluation = s.evaluate false) ∧
  (∀ (s : State) (cycle : Bool),
    let t := s.evaluate cycle
    let l := s.limitsNow
    let sp := s.current.setpoint
    let candidate :=
      if cycle then (if sp ≤ l.iLim then min l.iLim (sp + s.params.rampStep) else l.iLim) else min sp l.iLim
    t.current.limits = l ∧
    (s.current.mode = .adopt →
      t.current.setpoint = s.iMeas ∧ t.current.governing = .adopt ∧ t.units = s.units) ∧
    (s.current.mode = .run →
      t.current.setpoint = max candidate s.frozenSum ∧
      t.current.governing =
        (if candidate < s.frozenSum then .frozen
        else if t.current.setpoint < l.iLim then .ramp else s.chainLimit l)) ∧
    (s.current.mode = .hold →
      t.current.setpoint = max (min sp (min l.iCap l.iVlim)) s.frozenSum ∧ t.current.governing = .hold) ∧
    t.attention =
      (if t.current.governing = .voltage ∧ s.current.governing ≠ .voltage then (s.raise .voltageLimit 0).attention
      else s.attention) ∧
    t = { s with
      units := t.units, attention := t.attention
      current := { s.current with
        setpoint := t.current.setpoint, governing := t.current.governing, limits := t.current.limits } }) ∧
  (∀ (s : State) (arbiterFirst : Bool),
    let u := { s with meter := { s.meter with divider := (s.meter.divider + 1) % 2 } }
    exec (.dispatchCycle arbiterFirst) s = .next
      (headCompared (if arbiterFirst then u.grantEvaluation.evaluate true else (u.evaluate true).grantEvaluation))) ∧
  (∀ (s : State) (arbiterFirst : Bool) (p k : Nat) (rest : List Nat), 1 ≤ p → p ≤ 384 → 1 ≤ k → k ≤ 4 →
    s.quench.queue = p :: rest → p ∉ rest → s.slot k = none → (∀ j ∈ [1, 2, 3, 4], j < k → s.slot j ≠ none) →
    (s.heldSlots = 0 ∨ s.params.iFloor ≤ vlim s (s.heldSlots + 1)) →
    ∃ t, exec (.dispatchCycle arbiterFirst) s = .next t ∧ (t.pot p).ae = .quenching ∧ (t.pot p).slot = some k ∧
      t.slot k = some ⟨p, s.now⟩ ∧ p ∉ t.quench.queue) ∧
  (∀ (s : State) (arbiterFirst : Bool), (s.quench.queue = [] ∨ (∀ k ∈ [1, 2, 3, 4], s.slot k ≠ none) ∨
      (s.heldSlots ≠ 0 ∧ vlim s (s.heldSlots + 1) < s.params.iFloor)) →
    ∃ t, exec (.dispatchCycle arbiterFirst) s = .next t ∧ t.current = (s.evaluate true).current ∧
      t.units = (s.evaluate true).units ∧ t.attention = (s.evaluate true).attention ∧ t.quench = s.quench ∧
      t.switching = s.switching ∧ t.meter = { s.meter with divider := (s.meter.divider + 1) % 2 } ∧
      t.pots.nIn = s.pots.nIn ∧ t.pots.nOut = s.pots.nOut ∧ t.pots.sumR = s.pots.sumR ∧ t.pots.sumV = s.pots.sumV)

/-- R125, R126, R127: the split of an evaluation in RUN or HOLD, whatever the setpoint before it: the demands of the
SERVING units add up to the setpoint, which is at least F, and at most I_cap where F is in the range of a current;
each eligible unit has its truncated share and at most its capacity, the shortfall is given out one count each in
ascending unit number to the eligible units with a capacity above 0; every other unit's demand stands. -/
def Obligations.SplitAddsUpToSetpoint : Prop :=
  ∀ (s : State) (cycle : Bool), s.current.mode ≠ .adopt →
    let t := s.evaluate cycle
    let remainder := t.current.setpoint - s.frozenSum
    let takes := fun u => (s.unit u).eligible && decide (0 < (s.unit u).capacity)
    let share := fun u => remainder * (s.unit u).capacity / s.capacitySum
    let shortfall := remainder - (([1, 2, 3, 4, 5, 6, 7, 8].filter takes).map share).sum
    t.servingDemands = t.current.setpoint ∧ t.frozenSum = s.frozenSum ∧ t.iCap = s.iCap ∧
    s.frozenSum ≤ t.current.setpoint ∧ (s.frozenSum ≤ 65535 → t.current.setpoint ≤ s.iCap) ∧
    ∀ u, 1 ≤ u → u ≤ 8 →
      ((s.unit u).eligible = true → (t.unit u).demand ≤ (t.unit u).capacity ∧
        (t.unit u).demand =
          if takes u then
            share u + (if ([1, 2, 3, 4, 5, 6, 7, 8].filter fun w => takes w && decide (w < u)).length < shortfall then 1 else 0)
          else 0) ∧
      ((s.unit u).eligible = false → t.unit u = s.unit u) ∧
      t.unit u = { s.unit u with demand := (t.unit u).demand }

/-- From every state where they hold, every step that answers a next state keeps the bounds of the setpoint and the
sum of the demands (R124, R126): in RUN and HOLD the setpoint is at least F, at most I_cap where F is in the range of
a current, and the demands of the SERVING units add up to it; in RUN with an entry in the switch queue it is at most
I_ceiling, or F where that is more. I_cap is clamped at 65,535 (R103) and F is not (notes/assumptions/1). -/
def Obligations.SetpointAndDemandsStaySound : Prop :=
  ∀ s t : State, s.DispatchSound → step s = .next t → t.DispatchSound

/-- R48, R112: the setpoint, the demands, the slots, the queue and the pot table after a dispatch cycle are the same
whether the Quench Arbiter's grant evaluation or the Dispatcher's own evaluation is taken first, from every state
whose setpoint in RUN is at least F (the bound of R124). The order as the command's operand is the model's choice
(notes/assumptions/10). -/
def Obligations.CycleOrderDoesNotMatter : Prop :=
  ∀ s : State, (s.current.mode = .run → s.frozenSum ≤ s.current.setpoint) →
    ∃ t v, exec (.dispatchCycle true) s = .next t ∧ exec (.dispatchCycle false) s = .next v ∧
      t.current.setpoint = v.current.setpoint ∧ t.units = v.units ∧ t.quench = v.quench ∧ t.pots = v.pots ∧
      t.switching = v.switching ∧ t.meter = v.meter

/-- R115, R108, R109, R110: SET TARGET stores its value and evaluates nothing; RUN, HOLD and RESUME with their
refusals. -/
def Obligations.LineMasterSetsTargetAndMode : Prop :=
  (∀ (s : State) (v : Nat), s.port.takes = true →
    exec (.setTarget v) s = .next
      { s with
        current := { s.current with target := v }
        tariff := { s.tariff with load := none }
        port := { s.port with reply := some ⟨.ok, .done, [], false⟩, due := [] } }) ∧
  (∀ s : State, s.port.takes = true →
    let u := s.abandonLoad
    exec .run s = .next (
      if s.current.mode ≠ .adopt then answered u .state []
      else if ([1, 2, 3, 4, 5, 6, 7, 8].all fun k => (s.unit k).state != .serving) = true then answered u .state []
      else
        answered (State.eventEvaluation { u with current := { s.current with mode := .run, setpoint := s.iMeas } })
          .done []) ∧
    exec .hold s = .next (
      if s.current.mode ≠ .run then answered u .state []
      else if s.switching.queue ≠ [] then answered u .busy []
      else answered (State.eventEvaluation { u with current := { s.current with mode := .hold } }) .done []) ∧
    exec .resume s = .next (
      if s.current.mode ≠ .hold then answered u .state []
      else answered (State.eventEvaluation { u with current := { s.current with mode := .run } }) .done []))

/-- R129, R130, R131: SET PARAM stores a value that is in range and keeps its cross-constraint, leaves every other
parameter, and evaluates for the seven parameters R130 names; any other value or identifier gives PARAM. READ PARAM
gives the present value, the stored value after SET PARAM, and the default after reset. -/
def Obligations.ParametersAreStoredAndRead : Prop :=
  (∀ (s : State) (i v : Nat), s.port.takes = true →
    (¬paramAllowed s i v → exec (.setParam i v) s = .next (answered s.abandonLoad .param [])) ∧
    (paramAllowed s i v → ∃ params,
      (∀ j, params.get j = if j = i then some v else s.params.get j) ∧
      exec (.setParam i v) s = .next (
        let stored := { s.abandonLoad with current := { s.current with params := params } }
        answered (if i ∈ [1, 3, 4, 5, 6, 7, 8] then stored.eventEvaluation else stored) .done []))) ∧
  (∀ (s : State) (i : Nat), s.port.takes = true →
    ((i < 1 ∨ 26 < i) → exec (.readParam i) s = .next (answered s.abandonLoad .param [])) ∧
    (1 ≤ i → i ≤ 26 → ∃ v, s.params.get i = some v ∧
      exec (.readParam i) s = .next (answered s.abandonLoad .done (be 4 v)))) ∧
  (∀ (s : State) (i v : Nat), s.port.takes = true → paramAllowed s i v →
    ∃ t w, exec (.setParam i v) s = .next t ∧ exec .lmReplyEnd t = .next w ∧
      exec (.readParam i) w = .next (answered w.abandonLoad .done (be 4 v))) ∧
  (List.range 26).map (fun i => State.reset.params.get (i + 1)) =
    [1650, 6500, 20, 1500, 30000, 20000, 24000, 30000, 10, 5000, 8000, 6000, 2, 180, 120, 30, 240, 15, 5, 20, 30,
      300, 600, 400000, 38400, 115200].map some

/-! ### Demand Metering and Curtailment -/

/-- R134, R135, R137, R138, R140, R141, R157, R158: what a metering tick meters: line-seconds, V_line, P, the energy
of the band, which at a tick that closes the period too stands in the closed-period record (R147), SHED, the
curtailment and the calendar; at a tick that does not close the interval also the interval's energy, with the records
that stay; and what every tick leaves as it was. The parameters noted at the advance are the model's own copy
(notes/assumptions/7), and the tick as one whole is the model's choice (notes/assumptions/28). -/
def Obligations.TickMetersTheSecond : Prop :=
  ∀ (s : State) (shed : Bool),
    let vLine := s.pots.sumV + (s.pots.nOut * s.params.rBypass + s.params.rBus) * s.iMeas / 100000
    let power := vLine * s.iMeas / 100000
    let band := s.meter.interval.band
    ∃ t, exec (.meteringTick shed) s = .next t ∧
      t.meter.lineSeconds = (s.meter.lineSeconds + 1) % 4294967296 ∧
      t.meter.vLine = vLine ∧ t.meter.power = power ∧ t.meter.shed = shed ∧
      (let figures :=
        if s.meter.interval.elapsed + 1 = s.meter.interval.planned ∧ s.meter.pendingClose = true then
          t.meter.closed.figures
        else t.meter.period
      ∀ b, 1 ≤ b → b ≤ 4 → figures.band b =
        (if b = band then
          ⟨((s.meter.period.band b).kwh + ((s.meter.period.band b).residue + power) / 3600) % 4294967296,
            ((s.meter.period.band b).residue + power) % 3600⟩
        else s.meter.period.band b)) ∧
      t.meter.curtailment =
        (if s.meter.curtailment.map Curtailment.endStamp = some ((s.meter.lineSeconds + 1) % 4294967296) then none
        else s.meter.curtailment) ∧
      (s.meter.timeOfDay + 1 < 86400 → t.meter.timeOfDay = s.meter.timeOfDay + 1 ∧
        t.meter.dayOfWeek = s.meter.dayOfWeek ∧ t.meter.dayCount = s.meter.dayCount ∧ t.pots = s.pots) ∧
      (86400 ≤ s.meter.timeOfDay + 1 → t.meter.timeOfDay = 0 ∧ t.meter.dayOfWeek = (s.meter.dayOfWeek + 1) % 7 ∧
        t.meter.dayCount = (s.meter.dayCount + 1) % 65536) ∧
      (s.meter.interval.elapsed + 1 ≠ s.meter.interval.planned →
        t.meter.interval = { s.meter.interval with
          energy := s.meter.interval.energy + power, elapsed := s.meter.interval.elapsed + 1 } ∧
        t.meter.previous = s.meter.previous ∧ t.meter.closed = s.meter.closed ∧
        t.meter.pendingClose = s.meter.pendingClose ∧ t.tariff = s.tariff) ∧
      t.meter.atAdvance = s.params ∧ t.meter.divider = s.meter.divider ∧ t.current = s.current ∧ t.units = s.units ∧
      t.quench = s.quench ∧ t.switching = s.switching ∧ t.field = s.field ∧ t.port = s.port

/-- R151 to R154: the projection of a tick that does not close the interval: D_lim, D_proj, the governor and I_dlim,
and DEMAND LIMITING where it moves from OFF to LIMITING. -/
def Obligations.TickProjectsTheInterval : Prop :=
  ∀ (s : State) (shed : Bool), s.meter.interval.elapsed + 1 < s.meter.interval.planned →
    ∃ t, exec (.meteringTick shed) s = .next t ∧
      (let i := t.meter.interval
      let left := i.planned - i.elapsed
      let curtailed := match t.meter.curtailment with
        | some c => min i.limit c.limit
        | none => i.limit
      let dLim := if shed then min curtailed s.params.shedLimit else curtailed
      let dProj := (i.energy + t.meter.power * left) / i.planned
      let allowed : Int := (dLim * i.planned : Int) - i.energy
      t.meter.governor =
        (if dProj ≤ dLim then ⟨.off, dProj, dLim, 65535⟩
        else if allowed ≤ 0 then ⟨.limiting, dProj, dLim, 0⟩
        else if t.meter.vLine = 0 then ⟨.limiting, dProj, dLim, 65535⟩
        else ⟨.limiting, dProj, dLim, min 65535 (allowed.toNat / left * 100000 / t.meter.vLine)⟩) ∧
      t.attention =
        (if s.meter.governor.state = .off ∧ dLim < dProj then (s.raise .demandLimiting 0).attention else s.attention))

/-- R135, R41: a day rollover: the calendar moves to the next day and the daily counts of every record are cleared; at
any other time there is no such event. That the command is the tick at which the rollover is due is the model's
(notes/assumptions/4). -/
def Obligations.DayRolloverClearsDailyCounts : Prop :=
  ∀ (s : State) (shed : Bool),
    (s.meter.timeOfDay + 1 < 86400 → exec (.dayRollover shed) s = .next s) ∧
    (86400 ≤ s.meter.timeOfDay + 1 → ∃ t, exec (.dayRollover shed) s = .next t ∧
      exec (.meteringTick shed) s = .next t ∧ t.meter.timeOfDay = 0 ∧
      t.meter.dayOfWeek = (s.meter.dayOfWeek + 1) % 7 ∧ t.meter.dayCount = (s.meter.dayCount + 1) % 65536 ∧
      (∀ p, 1 ≤ p → p ≤ 384 → t.pot p = { s.pot p with aeCount := 0, aeSeconds := 0 }) ∧
      t.pots.nIn = s.pots.nIn ∧ t.pots.nOut = s.pots.nOut ∧ t.pots.sumR = s.pots.sumR ∧ t.pots.sumV = s.pots.sumV ∧
      t.current = s.current ∧ t.units = s.units ∧ t.quench = s.quench ∧ t.switching = s.switching ∧
      t.field = s.field ∧ t.port = s.port)

/-- R142 to R145, R147, R153, R163, R168: the close of an interval by a tick, and the interval that begins, with the
band and the limit of the last change point in effect under the table then active; at any other time there is no such
event. That the command is the tick that closes the interval is the model's (notes/assumptions/4). -/
def Obligations.IntervalCloseRecordsDemand : Prop :=
  ∀ (s : State) (shed : Bool),
    (s.meter.interval.elapsed + 1 ≠ s.meter.interval.planned → exec (.intervalClose shed) s = .next s) ∧
    (s.meter.interval.elapsed + 1 = s.meter.interval.planned → ∃ t, exec (.intervalClose shed) s = .next t ∧
      exec (.meteringTick shed) s = .next t ∧
      (let i := s.meter.interval
      let demand := (i.energy + t.meter.power) / i.planned
      let counted : Bool := s.tariff.active.length / 2 ≤ i.planned
      let figures := if s.meter.pendingClose then t.meter.closed.figures else t.meter.period
      t.meter.previous = ⟨demand, i.planned, i.band, counted⟩ ∧
      figures.counted = (if counted then min (s.meter.period.counted + 1) 65535 else s.meter.period.counted) ∧
      figures.uncounted = (if counted then s.meter.period.uncounted else min (s.meter.period.uncounted + 1) 65535) ∧
      (figures.maximum, figures.maximumDay, figures.maximumTime) =
        (if counted = true ∧ s.meter.period.maximum < demand then (demand, t.meter.dayCount, t.meter.timeOfDay)
        else (s.meter.period.maximum, s.meter.period.maximumDay, s.meter.period.maximumTime)) ∧
      (s.meter.pendingClose = true → t.meter.period = PeriodFigures.empty ∧ t.meter.pendingClose = false ∧
        t.tariff.locked = false ∧ t.meter.closed.closeDay = t.meter.dayCount ∧
        t.meter.closed.closeTime = t.meter.timeOfDay) ∧
      (s.meter.pendingClose = false → t.meter.closed = s.meter.closed ∧ t.tariff.locked = s.tariff.locked) ∧
      (∀ table, s.tariff.staged = some table →
        t.meter.timeOfDay % s.tariff.active.length = 0 ∧ t.meter.timeOfDay % table.length = 0 →
        t.tariff.active = table ∧ t.tariff.staged = none) ∧
      (∀ table, s.tariff.staged = some table →
        ¬(t.meter.timeOfDay % s.tariff.active.length = 0 ∧ t.meter.timeOfDay % table.length = 0) →
        t.tariff.active = s.tariff.active ∧ t.tariff.staged = some table) ∧
      (s.tariff.staged = none → t.tariff.active = s.tariff.active ∧ t.tariff.staged = none) ∧
      t.tariff.load = s.tariff.load ∧
      t.meter.interval =
        (let band := t.tariff.active.bandAt t.meter.timeOfDay t.meter.dayOfWeek
        { start := t.meter.timeOfDay
          planned := t.tariff.active.length - t.meter.timeOfDay % t.tariff.active.length
          elapsed := 0, energy := 0, band := band, limit := t.tariff.active.limitOf band }) ∧
      inForce t.tariff.active t.meter.timeOfDay t.meter.dayOfWeek t.meter.interval.band t.meter.interval.limit ∧
      t.meter.pendingClose = false ∧
      t.meter.governor = s.meter.governor ∧ t.attention = (s.raise .intervalClosed 0).attention ∧
      t.current = s.current ∧ t.units = s.units ∧ t.quench = s.quench ∧ t.switching = s.switching ∧
      t.field = s.field ∧ t.port = s.port))

/-- R149: SET CLOCK closes the interval in progress as a partial one, sets the clock and begins the next interval, in
the band and with the limit of the last change point in effect at the new time of day and day of week (R163); every
other field of the Demand Meter stays: the governor, the curtailment, V_line, P, SHED, the line-seconds value and the
divider. -/
def Obligations.SetClockClosesPartialInterval : Prop :=
  ∀ (s : State) (time day : Nat), s.port.takes = true →
    ((86399 < time ∨ 6 < day) → exec (.setClock time day) s = .next (answered s.abandonLoad .param [])) ∧
    ((time ≤ 86399 ∧ day ≤ 6) → ∃ t, exec (.setClock time day) s = .next (answered t .done []) ∧
      (let m := s.meter
      let i := m.interval
      let demand := if i.elapsed = 0 then 0 else i.energy / i.elapsed
      let counted : Bool := s.tariff.active.length / 2 ≤ i.elapsed
      let figures := closedInto m.period demand counted m.dayCount m.timeOfDay
      let band := s.tariff.active.bandAt time day
      let interval : Interval :=
        { start := time, planned := s.tariff.active.length - time % s.tariff.active.length, elapsed := 0, energy := 0
          band := band, limit := s.tariff.active.limitOf band }
      t = { s with
        meter := { m with
          timeOfDay := time, dayOfWeek := day, interval := interval, previous := ⟨demand, i.elapsed, i.band, counted⟩
          period := if m.pendingClose then ⟨Vector.replicate 4 ⟨0, 0⟩, 0, 0, 0, 0, 0⟩ else figures
          closed := if m.pendingClose then ⟨figures, m.dayCount, m.timeOfDay⟩ else m.closed
          pendingClose := false }
        tariff := { s.tariff with load := none, locked := s.tariff.locked && !m.pendingClose }
        attention := (s.raise .intervalClosed 0).attention } ∧
      inForce s.tariff.active time day interval.band interval.limit))

/-- R156, R157, R146: a curtailment set, cancelled and expired, and a period close asked for. That an end stamp beyond
the counter's range is taken modulo 4,294,967,296, and that the expiry command is the tick at which it is due, are the
model's (notes/assumptions/2 and 4). -/
def Obligations.CurtailmentAndPeriodRequests : Prop :=
  (∀ (s : State) (limit minutes : Nat), s.port.takes = true →
    exec (.curtail limit minutes) s = .next (
      let u := s.abandonLoad
      if 16777215 < limit ∨ minutes = 0 ∨ 1440 < minutes then answered u .param []
      else
        answered { u with meter := { s.meter with
          curtailment := some ⟨limit, (s.meter.lineSeconds + minutes * 60) % 4294967296⟩ } } .done [])) ∧
  (∀ s : State, s.port.takes = true →
    exec .cancelCurtail s = .next (
      if s.meter.curtailment = none then answered s.abandonLoad .late []
      else answered { s.abandonLoad with meter := { s.meter with curtailment := none } } .done []) ∧
    exec .closePeriod s = .next
      (answered { s.abandonLoad with meter := { s.meter with pendingClose := true } } .done [])) ∧
  (∀ (s : State) (shed : Bool),
    (s.meter.curtailment.map Curtailment.endStamp ≠ some ((s.meter.lineSeconds + 1) % 4294967296) →
      exec (.curtailmentExpiry shed) s = .next s) ∧
    (s.meter.curtailment.map Curtailment.endStamp = some ((s.meter.lineSeconds + 1) % 4294967296) →
      ∃ t, exec (.curtailmentExpiry shed) s = .next t ∧ exec (.meteringTick shed) s = .next t ∧
        t.meter.curtailment = none))

/-- From every state where they hold, every step that answers a next state keeps them: the tariff tables meet R162,
the calendar is in range, and the interval in progress stays inside its planned length, ends on the grid of the active
table, began when the time of day says it did, and carries the band and the limit that the table gives, those of the
last change point in effect in the schedule of the day type (R135, R139 to R141, R162, R163). -/
def Obligations.IntervalStaysOnTheGrid : Prop :=
  ∀ s t : State, s.MeterSound → step s = .next t →
    t.MeterSound ∧
      inForce t.tariff.active t.meter.timeOfDay t.meter.dayOfWeek t.meter.interval.band t.meter.interval.limit

/-! ### Tariff Table -/

/-- R165, R166, R167: the frames of a LOAD TARIFF sequence. R169, R170: LOCK TARIFF and READ TARIFF. -/
def Obligations.TariffRequestsFollowLoad : Prop :=
  (∀ (s : State) (part : TariffPart) (final : Bool), s.port.takes = true →
    exec (.loadTariff part final) s = .next (
      let load := fun l : Option TariffLoad => { s with tariff := { s.tariff with load := l } }
      let finish := fun (h : TariffHeader) (w r : Option (List ChangePoint)) =>
        match firstBad h w r with
        | some bad => answered (load none) .param (be 1 bad.part ++ be 1 bad.item ++ be 1 bad.index)
        | none =>
          answered { s with tariff := { s.tariff with
            staged := some (builtTable h (w.getD []) (r.getD [])), load := none } } .done []
      match s.tariff.load, part with
      | none, .header h =>
        if s.tariff.locked then answered s .protect []
        else if final then finish h none none else answered (load (some (.expectWorking h))) .done []
      | none, _ => if s.tariff.locked then answered s .protect [] else answered s .state []
      | some (.expectWorking h), .working w =>
        if final then finish h (some w) none else answered (load (some (.expectRest h w))) .done []
      | some (.expectRest h w), .rest r =>
        if final then finish h (some w) (some r) else answered (load none) .state []
      | some _, _ => answered (load none) .state [])) ∧
  (∀ (s : State) (selector : Nat), s.port.takes = true →
    exec .lockTariff s = .next
      (answered { s with tariff := { s.tariff with load := none, locked := true } } .done []) ∧
    exec (.readTariff selector) s = .next (
      let u := s.abandonLoad
      let image := fun t : TariffTable =>
        be 1 (if s.tariff.locked then 1 else 0) ++ be 1 (if s.tariff.staged = none then 0 else 1) ++ be 2 t.length ++
          be 1 t.bandCount ++ be 4 (t.limits.getD 0 0) ++ be 4 (t.limits.getD 1 0) ++ be 4 (t.limits.getD 2 0) ++
          be 4 (t.limits.getD 3 0) ++ be 1 t.restMask ++
          (be 1 t.working.length ++ t.working.flatMap fun c => be 4 c.second ++ be 1 c.band) ++
          (be 1 t.rest.length ++ t.rest.flatMap fun c => be 4 c.second ++ be 1 c.band)
      if selector = 1 then answered u .done (image s.tariff.active)
      else if selector = 2 then
        match s.tariff.staged with
        | none => answered u .noRecord []
        | some t => answered u .done (image t)
      else answered u .param []))

/-- R162, R166: validation finds no bad item exactly in the sections whose table has the content of R162, a load
without both schedules always has one, and the item it names is the first bad one in the order of R166. The table that
a load builds has the fields of its sections, and the limits of its bands. -/
def Obligations.ValidationAcceptsValidTables : Prop :=
  (∀ (h : TariffHeader) (w r : List ChangePoint),
    (firstBad h (some w) (some r) = none ↔ (builtTable h w r).Valid) ∧
    firstBad h none none ≠ none ∧ firstBad h (some w) none ≠ none) ∧
  (∀ (h : TariffHeader) (w r : Option (List ChangePoint)),
    firstBad h w r = ((loadItems h w r).find? Prod.fst).map Prod.snd) ∧
  (∀ (h : TariffHeader) (w r : List ChangePoint), builtTable h w r =
    ⟨h.length, h.bandCount, [h.limit1, h.limit2, h.limit3, h.limit4].take h.bandCount, h.restMask, w, r⟩)

/-! ### Attention -/

/-- R173: a source raised: its first occurrence, a later one, and one at a count of 255; the mask plays no part, no
other source changes, and ATTN takes the level R175 gives. -/
def Obligations.RaisingCountsOccurrences : Prop :=
  ∀ (s : State) (source : Source) (detail : Nat),
    let t := s.raise source detail
    let r := s.attention.source source.code
    t = { s with attention := t.attention } ∧ t.attention.mask = s.attention.mask ∧
    (r.pending = false → t.attention.source source.code = ⟨true, 1, detail⟩) ∧
    (r.pending = true → r.count < 255 → t.attention.source source.code = ⟨true, r.count + 1, r.detail⟩) ∧
    (r.pending = true → r.count = 255 → t.attention.source source.code = ⟨true, 255, r.detail⟩) ∧
    (∀ c, c ≠ source.code → t.attention.source c = s.attention.source c) ∧
    (t.attention.attn = true ↔
      ∃ c, 1 ≤ c ∧ c ≤ 12 ∧ (t.attention.source c).pending = true ∧ t.attention.enabled c = true)

/-- R177, R178: ACK ATTENTION clears a source whose count matches, reduces one whose count is 255, and is refused
otherwise with the status of the first check that fails. A source written so changes no other source and no mark of
the mask, and ATTN takes the level R175 gives. -/
def Obligations.AcknowledgementMatchesCount : Prop :=
  ∀ (s : State) (code count : Nat), s.port.takes = true →
    exec (.ackAttention code count) s = .next (
      let u := s.abandonLoad
      let r := s.attention.source code
      if code < 1 ∨ 12 < code then answered u .param []
      else if r.pending = false then answered u .late []
      else if r.count ≠ count then answered u .late []
      else if count = 255 then answered { u with attention := s.attention.put code ⟨true, 1, 0⟩ } .done []
      else answered { u with attention := s.attention.put code ⟨false, 0, 0⟩ } .done []) ∧
    (1 ≤ code → code ≤ 12 → ∀ r : SourceRecord,
      let a := s.attention.put code r
      a.source code = r ∧ (∀ c, c ≠ code → a.source c = s.attention.source c) ∧ a.mask = s.attention.mask ∧
        (a.attn = true ↔ ∃ c, 1 ≤ c ∧ c ≤ 12 ∧ (a.source c).pending = true ∧ a.enabled c = true))

/-- R174, R176: SET ATTENTION MASK replaces the mask and settles ATTN; GET ATTENTION gives the pending and enabled
source of the lowest code. -/
def Obligations.MaskAndGetAttention : Prop :=
  (∀ (s : State) (marks : Nat), s.port.takes = true →
    (4096 ≤ marks → exec (.setAttentionMask marks) s = .next (answered s.abandonLoad .param [])) ∧
    (marks < 4096 → ∃ a, exec (.setAttentionMask marks) s = .next
        (answered { s.abandonLoad with attention := a } .done []) ∧
      a.sources = s.attention.sources ∧ a.mask.toNat = marks ∧
      (a.attn = true ↔ ∃ c, 1 ≤ c ∧ c ≤ 12 ∧ (a.source c).pending = true ∧ marks.testBit (c - 1) = true))) ∧
  (∀ s : State, s.port.takes = true → ∃ c n d,
    exec .getAttention s = .next (answered s.abandonLoad .done
      (be 1 c ++ be 1 n ++ be 2 d ++ be 2 s.attention.pendingMarks ++ be 2 s.attention.mask.toNat)) ∧
    (∀ k, 1 ≤ k → k ≤ 12 → (s.attention.pendingMarks.testBit (k - 1) = (s.attention.source k).pending)) ∧
    ((c = 0 ∧ n = 0 ∧ d = 0 ∧
        ∀ k, 1 ≤ k → k ≤ 12 → (s.attention.source k).pending = true → s.attention.enabled k = false) ∨
      (1 ≤ c ∧ c ≤ 12 ∧ s.attention.source c = ⟨true, n, d⟩ ∧ s.attention.enabled c = true ∧
        ∀ k, 1 ≤ k → k < c → (s.attention.source k).pending = true → s.attention.enabled k = false)))

/-- From every state where it holds, every step that answers a next state keeps it: ATTN is asserted exactly when an
enabled source is pending (R175), a pending source has a count of 1 to 255, and a source that is not pending has count
0 and detail 0 (R172). -/
def Obligations.AttnFollowsPendingSources : Prop :=
  ∀ s t : State, s.attention.Sound → step s = .next t → t.attention.Sound

/-! ### Field Link -/

/-- R182: the checks of ADD NODE in their order, and the entry it adds. R183: DROP NODE removes the entry; the walk
position stays on the entry it was on, becomes the one that followed a dropped walk position, the first, starting a
new pass that has given no turn, where that was the last, and none where the ring is left empty; the speed and the
reply of a turn in progress stay. That the pass begun by a drop has given no turn, and that a ring left empty ends the
idle time, are the model's readings (notes/assumptions/16). -/
def Obligations.NodesJoinAndLeaveRing : Prop :=
  (∀ (s : State) (a kind : Nat), s.port.takes = true →
    exec (.addNode a kind) s = .next (
      let u := s.abandonLoad
      if (a < 1 ∨ 62 < a) ∨ (kind ≠ 1 ∧ kind ≠ 2) then answered u .param []
      else if 62 ≤ s.field.ring.length then answered u .full []
      else if ∃ e ∈ s.field.ring, e.address = a then answered u .busy []
      else
        answered { u with field := { s.field with
          ring := s.field.ring ++ [⟨a, if kind = 1 then .potNode else .unitNode, .active, 0, 0⟩]
          walk := if s.field.ring = [] then some 0 else s.field.walk } } .done [])) ∧
  (∀ (s : State) (a : Nat), s.port.takes = true →
    ((a < 1 ∨ 62 < a) → exec (.dropNode a) s = .next (answered s.abandonLoad .param [])) ∧
    (1 ≤ a → a ≤ 62 → (∀ e ∈ s.field.ring, e.address ≠ a) →
      exec (.dropNode a) s = .next (answered s.abandonLoad .noRecord [])) ∧
    (∀ (front back : List RingEntry) (e : RingEntry), s.field.ring = front ++ e :: back → e.address = a → 1 ≤ a → a ≤ 62 →
      (∀ x ∈ front, x.address ≠ a) →
      let starts := decide (s.field.walk = some front.length) && back.isEmpty
      ∃ f, exec (.dropNode a) s = .next (answered { s.abandonLoad with field := f } .done []) ∧
        f = { s.field with ring := front ++ back, walk := f.walk, turn := f.turn, passGave := f.passGave, idle := f.idle } ∧
        f.passGave = (s.field.passGave && !starts) ∧ f.idle = (s.field.idle && !(front ++ back).isEmpty) ∧
        (s.field.walk = none → f.walk = none) ∧
        (front ++ back = [] → f.walk = none) ∧
        (∀ k, front ++ back ≠ [] → s.field.walk = some k →
          f.walk = some (if k < front.length then k
            else if k = front.length then (if back = [] then 0 else k) else k - 1)) ∧
        f.turn = (if s.field.walk = some front.length then s.field.turn.map fun t => { t with entryStands := false }
          else s.field.turn)))

/-- R185, R186: between turns, TURN passes over the ABSENT entries below pass counter 15, whose counters each rise by
1, and gives the turn to the first entry from the walk position on that is due one, sending its turn character (R180).
Where the pass ends without one, a pass that gave none is followed by the idle time; one that gave a turn is followed
at once by the next from the first entry, which gives a turn or rests in the same way. A TURN while a reply is being
sent ends that turn first. When the idle time runs out, the next pass begins in this way up to the first entry that is
due. TURN inside a response window, the idle time or an empty ring, and IDLE_TIME outside the idle time, do nothing:
the model's reading of the table's rows (notes/assumptions/16). -/
def Obligations.WalkGivesTurnsInRingOrder : Prop :=
  (∀ (s : State) (front skipped back : List RingEntry) (e : RingEntry), s.field.turn = none → s.field.idle = false →
    s.field.walk = some front.length → s.field.ring = front ++ skipped ++ e :: back → (∀ x ∈ skipped, passedOver x) → due e →
    exec .turn s = .next { s with
      field := given s (front ++ skipped.map counted ++ { e with passCounter := 0 } :: back) (front.length + skipped.length) e } ∧
    (given s (front ++ skipped.map counted ++ { e with passCounter := 0 } :: back) (front.length + skipped.length) e).sent =
      [⟨true, BitVec.ofNat 8 e.address⟩]) ∧
  (∀ (s : State) (front skipped : List RingEntry), s.field.turn = none → s.field.idle = false → s.field.passGave = false →
    s.field.walk = some front.length → s.field.ring = front ++ skipped → (∀ x ∈ skipped, passedOver x) →
    exec .turn s = .next { s with field := rested s (front ++ skipped.map counted) }) ∧
  (∀ (s : State) (front skipped again back : List RingEntry) (e : RingEntry), s.field.turn = none → s.field.idle = false →
    s.field.passGave = true → s.field.walk = some front.length → s.field.ring = front ++ skipped →
    (∀ x ∈ skipped, passedOver x) → front ++ skipped.map counted = again ++ e :: back → (∀ x ∈ again, passedOver x) → due e →
    exec .turn s = .next { s with
      field := given s (again.map counted ++ { e with passCounter := 0 } :: back) again.length e }) ∧
  (∀ (s : State) (front skipped : List RingEntry), s.field.turn = none → s.field.idle = false → s.field.passGave = true →
    s.field.walk = some front.length → s.field.ring = front ++ skipped → (∀ x ∈ skipped, passedOver x) →
    (∀ x ∈ front ++ skipped.map counted, passedOver x) →
    exec .turn s = .next { s with field := rested s ((front ++ skipped.map counted).map counted) }) ∧
  (∀ (s : State) (turn : Turn), s.field.turn = some turn → turn.phase = .reply → s.field.idle = false →
    exec .turn s = exec .turn { s with field := turnOver s.field }) ∧
  (∀ s : State, s.field.turn = none → s.field.walk = none → exec .turn s = .next s) ∧
  (∀ s : State, (s.field.awaited ≠ none ∨ s.field.idle = true) → exec .turn s = .next s) ∧
  (∀ s : State, s.field.idle = false → exec .idleTime s = .next s) ∧
  (∀ s : State, s.field.idle = true → s.field.walk = some 0 → (∀ e ∈ s.field.ring, passedOver e) →
    exec .idleTime s = .next { s with field := rested s (s.field.ring.map counted) }) ∧
  (∀ (s : State) (front back : List RingEntry) (e : RingEntry), s.field.idle = true → s.field.walk = some 0 →
    s.field.ring = front ++ e :: back → due e → (∀ x ∈ front, passedOver x) →
    exec .idleTime s = .next { s with field := { s.field with
      ring := front.map counted ++ e :: back, walk := some front.length, passGave := false, idle := false } })

/-- R186: a response window that runs out is a miss; the third in a row makes an ACTIVE entry ABSENT and raises NODE
ABSENT; the turn ends and the walk moves on, with a new pass that has given no turn after the last entry. That MISS
with no response window running changes nothing is the model's reading (notes/assumptions/13). -/
def Obligations.MissedTurnIsCounted : Prop :=
  (∀ s : State, s.field.awaited = none → exec .miss s = .next s) ∧
  (∀ (s : State) (turn : Turn) (k : Nat) (e : RingEntry), s.field.awaited = some turn → turn.entryStands = true →
    s.field.walk = some k → s.field.ring[k]? = some e →
    ∃ t, exec .miss s = .next t ∧ t = { s with field := t.field, attention := t.attention } ∧
      (let after : RingEntry :=
        if e.presence = .absent then e
        else if 2 ≤ e.misses then { e with presence := .absent, misses := 3, passCounter := 0 }
        else { e with misses := e.misses + 1 }
      t.field = turnOver { s.field with ring := s.field.ring.set k after }) ∧
      t.field.turn = none ∧ t.field.walk = some (if k + 1 < s.field.ring.length then k + 1 else 0) ∧
      t.field.passGave = (s.field.passGave && decide (k + 1 < s.field.ring.length)) ∧ t.field.idle = s.field.idle ∧
      t.attention =
        (if e.presence = .active ∧ 2 ≤ e.misses then (s.raise .nodeAbsent e.address).attention else s.attention)) ∧
  (∀ (s : State) (turn : Turn), s.field.awaited = some turn → turn.entryStands = false →
    exec .miss s = .next { s with field := { s.field with turn := none, reply := none } })

/-- R187, R188, R190: every character of a turn makes the entry ACTIVE with misses 0; PASS is answered DONE, a frame
that is no request is answered with its link status, a request the node's kind may not send is answered UNKNOWN, and
an abandoned frame ends the turn unanswered, the walk moving on at once. The reply's characters follow the turn
character with mark 0 (R180). -/
def Obligations.AnyCharacterAnswersTheTurn : Prop :=
  ∀ (s : State) (turn : Turn), s.field.awaited = some turn →
    let u := s.nodeAnswered
    u = { s with field := u.field } ∧
    (∀ k e, turn.entryStands = true → s.field.walk = some k → s.field.ring[k]? = some e →
      u.field = { s.field with ring := s.field.ring.set k { e with presence := .active, misses := 0, passCounter := 0 } }) ∧
    exec .pass s = .next (fieldAnswered u .done []) ∧
    (∀ f link i, judgeField turn.kind f = (link, i) → link ≠ .ok →
      exec (.fieldFrameRefused f) s = .next (u.sendFieldReply ⟨link, .none, [], false⟩)) ∧
    (∀ c, turn.kind = .potNode → (∃ a m t f b, c = .unitReport a m t f b) →
      exec c s = .next (u.sendFieldReply ⟨.unknown, .none, [], false⟩)) ∧
    (∀ c, turn.kind = .unitNode → (∃ code payload, fieldRequest c = some (code, payload) ∧ 1 ≤ code ∧ code ≤ 5) →
      exec c s = .next (u.sendFieldReply ⟨.unknown, .none, [], false⟩)) ∧
    (exec .fieldFrameGap s = .next { s with field := turnOver u.field } ∧ (turnOver u.field).turn = none ∧
      (turnOver u.field).reply = none ∧ (turnOver u.field).ring = u.field.ring) ∧
    (∀ r : Reply, (u.sendFieldReply r).field.sent = ⟨true, BitVec.ofNat 8 turn.address⟩ :: r.bytes.map (⟨false, ·⟩))

/-- From every state whose Field Link Controller is sound, every step that answers a next state leaves it sound: at
most 62 entries of distinct addresses 1 to 62 (R181); an ACTIVE entry has at most 2 misses and pass counter 0, an
ABSENT one 3 misses and a pass counter of at most 15 (R186); the walk position is an entry, none exactly where the
ring is empty; a turn whose entry stands is held by the entry at the walk position (R183, R185). The same of the Line
Master Port: frames wait only behind a reply that is being sent (R194, R196). -/
def Obligations.LinksStaySound : Prop :=
  (∀ s t : State, s.field.Sound → step s = .next t → t.field.Sound) ∧
  (∀ s t : State, s.port.Sound → step s = .next t → t.port.Sound)

/-! ### Line Master Port and Frame Formats -/

/-- R192, R193, R194, R196: the events of the port: a break, a gap, a refused frame, the next captured frame, the idle
level after a break, and the end of a reply, at which the line master speed in force takes its set value (R130). That
a gap changes nothing, since no characters of a frame are held, is the model's choice (notes/assumptions/14 and 15).
While a reply is being sent or a break waits for the idle level, no line master request is taken and the block stays
as it is (notes/assumptions/12). -/
def Obligations.PortEventsAndBusyReceiver : Prop :=
  (∀ s : State,
    exec .lmBreak s = .next { s with
      tariff := { s.tariff with load := none }, port := { s.port with due := [], waitIdle := true } } ∧
    exec .lmFrameGap s = .next s ∧
    exec .lmrxIdleReturn s = .next { s with port := { s.port with waitIdle := false } }) ∧
  (∀ (s : State) (f : List PortChar) (link : LinkStatus) (i : Option Instr), judgePort f = (link, i) → link ≠ .ok →
    s.port.takes = true →
    exec (.lmFrameRefused f) s = .next { s with
      port := { s.port with reply := some ⟨link, .none, [], false⟩, due := [] } }) ∧
  (∀ (s : State) (next : Reply) (rest : List Reply), s.port.due = next :: rest →
    exec .rangeFrameNext s = .next { s with port := { s.port with reply := some next, due := rest } } ∧
    exec .lmReplyEnd s = .next s) ∧
  (∀ (s : State) (r : Reply), s.port.reply = some r → s.port.due = [] →
    exec .lmReplyEnd s = .next { s with
      port := { s.port with reply := none, speed := s.current.params.portSpeed } }) ∧
  (∀ (c : Instr) (s : State), lineRequest c ≠ none → (s.port.reply ≠ none ∨ s.port.waitIdle = true) →
    exec c s = .next s)

/-- R26, R100, R132, R148, R159, R184, R198: the reading requests give their records and change nothing but the load
in progress they abandon; the fields of each image in the order and sizes of R198, with the quench slot or queue
position of R16. These are the model's: what the two bytes of F or of a setpoint above 65,535 carry, a free value
(notes/assumptions/1); the seconds left of a curtailment modulo 4,294,967,296 (notes/assumptions/2); a start hold
shown until its end is reached (notes/assumptions/9); the turn shown until it ends (notes/assumptions/15). -/
def Obligations.ReadsGiveTheirRecords : Prop :=
  (∀ (s : State) (p u : Nat), s.port.takes = true →
    let v := s.abandonLoad
    exec (.readPot p) s = .next (if p < 1 ∨ 384 < p then answered v .noRecord [] else answered v .done (s.potImage p)) ∧
    exec (.readUnit u) s = .next (if u < 1 ∨ 8 < u then answered v .param [] else answered v .done (s.unitImage u)) ∧
    exec .readNodes s = .next (answered v .done s.field.image) ∧
    exec .readLine s = .next (answered v .done s.lineImage) ∧
    exec .readMeter s = .next (answered v .done s.meterImage) ∧
    exec .readPeriod s = .next (answered v .done s.periodImage) ∧
    (s.potImage p).length = 22 ∧ (s.unitImage u).length = 27 ∧ s.lineImage.length = 67 ∧ s.meterImage.length = 69 ∧
    s.periodImage.length = 83 ∧ s.field.image.length = 2 + 3 * s.field.ring.length) ∧
  (∀ (s : State) (p : Nat),
    let r := s.pot p
    s.potImage p = be 2 p ++ be 1 r.circuit.code ++ be 1 r.tag ++ be 1 (r.owner.getD 0) ++ be 2 r.voltage ++
      be 3 r.resistance ++ be 1 (bit r.silent 0 + bit (held r s.now) 1 + bit (r.aeClass = .escalated) 2) ++
      be 1 r.ae.code ++ be 2 (s.slotOrPlace p) ++ be 1 (switchCode r.switch) ++ be 1 r.lastSwitch.code ++ be 1 r.aeCount ++
      be 2 r.aeSeconds ++ be 1 r.overruns ++ be 2 (shownAge s.now r.reportStamp)) ∧
  (∀ (s : State) (p : Nat),
    (∀ k, (s.pot p).ae = .quenching → (s.pot p).slot = some k → s.slotOrPlace p = k) ∧
    (∀ front back, (s.pot p).ae = .waiting → s.quench.queue = front ++ p :: back → p ∉ front →
      s.slotOrPlace p = front.length + 1) ∧
    ((s.pot p).ae ≠ .quenching → (s.pot p).ae ≠ .waiting → s.slotOrPlace p = 0)) ∧
  (∀ (s : State) (u : Nat),
    let r := s.unit u
    s.unitImage u = be 1 u ++ be 1 r.state.code ++ be 1 r.node ++ be 2 r.rated ++ be 4 r.vMax ++ be 2 r.tDerate ++
      be 2 r.tTrip ++ be 2 r.measured ++ be 2 r.temperature ++
      be 1 (bit r.flowOk 0 + bit r.breakerClosed 1 + bit r.silent 2 + bit r.derated 3 + bit r.frozen 4 +
        bit r.flowLossStamp.isSome 5) ++
      be 2 (shownAge s.now r.reportStamp) ++
      be 2 (match r.flowLossStamp with | some stamp => shownAge s.now stamp | none => 0) ++ be 2 r.capacity ++
      be 2 r.demand ++ be 1 r.tripCause.code) ∧
  (∀ s : State, s.field.image = be 1 s.field.ring.length ++
    be 1 (match s.field.turn with | some turn => turn.address | none => 0) ++
    s.field.ring.flatMap fun e =>
      be 1 e.address ++ be 1 (kindCode e.kind * 16 + e.presence.code) ++ be 1 (e.misses * 16 + e.passCounter)) ∧
  (∀ s : State,
    let slot := fun k => match s.slot k with
      | some x => be 1 1 ++ be 2 x.position ++ be 2 (shownAge s.now x.grantStamp)
      | none => [0, 0, 0, 0, 0]
    let head := s.switching.queue.head?
    let record := head.bind fun p => (s.pot p).switch
    s.lineImage = be 1 s.current.mode.code ++ be 1 s.current.governing.code ++ be 1 s.meter.governor.state.code ++
      currentBytes s.current.setpoint ++ be 2 s.current.target ++ be 2 s.current.limits.iCap ++
      be 2 s.current.limits.iVlim ++ be 2 s.current.limits.iDlim ++ be 2 s.current.limits.floored ++
      be 2 s.current.limits.iSw ++ be 2 s.current.limits.iLim ++ be 2 s.iMeas ++ be 4 s.vCap ++ currentBytes s.frozenSum ++
      be 2 s.pots.nIn ++ be 2 s.pots.nOut ++ be 4 s.pots.sumR ++ be 4 s.pots.sumV ++ slot 1 ++ slot 2 ++ slot 3 ++ slot 4 ++
      be 2 s.quench.queue.length ++ be 1 s.switching.queue.length ++ be 2 (head.getD 0) ++ be 1 (switchCode record) ++
      be 2 (match record with | some w => shownAge s.now w.stamp | none => 0)) ∧
  (∀ s : State,
    let m := s.meter
    s.meterImage = be 4 m.lineSeconds ++ be 4 m.timeOfDay ++ be 1 m.dayOfWeek ++ be 2 m.dayCount ++
      be 4 m.interval.start ++ be 2 m.interval.planned ++ be 2 m.interval.elapsed ++ be 8 m.interval.energy ++
      be 1 m.interval.band ++ be 4 m.interval.limit ++ be 4 m.previous.demand ++ be 2 m.previous.duration ++
      be 1 m.previous.band ++ be 1 (bit m.previous.counted 0) ++ be 4 m.vLine ++ be 4 m.power ++
      be 1 m.governor.state.code ++ be 4 m.governor.dProj ++ be 4 m.governor.dLim ++ be 2 m.governor.iDlim ++
      (match m.curtailment with
      | some c => be 1 1 ++ be 4 c.limit ++ be 4 ((c.endStamp + 4294967296 - s.now) % 4294967296)
      | none => [0, 0, 0, 0, 0, 0, 0, 0, 0]) ++ be 1 (bit m.shed 0)) ∧
  (∀ s : State, s.periodImage = be 1 (bit s.meter.pendingClose 0) ++ periodBytes s.meter.period ++
    periodBytes s.meter.closed.figures ++ be 2 s.meter.closed.closeDay ++ be 4 s.meter.closed.closeTime)

/-- R198: the bytes of a reply frame: C3h, the length, the link status, the request status, the payload, the sum and
the end marker; all from the length through the sum add up to 0 modulo 256, and the length counts the bytes from the
link status through the last payload byte. A number of k bytes is sent most significant byte first and reads back
modulo 256 to the k. The enumerated fields carry the codes of R198. -/
def Obligations.ReplyFrameAddsUpToZero : Prop :=
  (∀ r : Reply, r.payload.length ≤ 249 → ∃ sum last : Byte,
    r.bytes = [0xC3, BitVec.ofNat 8 (r.payload.length + 2), BitVec.ofNat 8 (linkCode r.link),
      BitVec.ofNat 8 r.status.code] ++ r.payload ++ [sum, last] ∧
    (last = 0x3C ↔ r.continued = false) ∧ (last = 0x3D ↔ r.continued = true) ∧
    (r.payload.foldl (fun a b => a + b.toNat)
      ((r.payload.length + 2) + linkCode r.link + r.status.code + sum.toNat)) % 256 = 0) ∧
  (∀ k n : Nat, (be k n).length = k ∧ unbe (be k n) = n % 256 ^ k) ∧
  (∀ n : Nat, be 2 n = [BitVec.ofNat 8 (n / 256), BitVec.ofNat 8 n]) ∧
  (∀ n : Nat, n ≤ 65535 → currentBytes n = be 2 n) ∧ (∀ n : Nat, (currentBytes n).length = 2) ∧
  ([LinkStatus.ok, .sum, .form, .unknown].map linkCode = [0, 1, 2, 3] ∧
    [ReqStatus.none, .done, .param, .noRecord, .owner, .stale, .state, .busy, .full, .late, .notReady, .protect].map
      ReqStatus.code = [0, 1, 2, 3, 4, 5, 6, 7, 8, 9, 10, 11] ∧
    [Circuit.vacant, .outOfCircuit, .inCircuit].map Circuit.code = [0, 1, 2] ∧
    [AeState.none, .suspect, .waiting, .quenching, .settling].map AeState.code = [0, 1, 2, 3, 4] ∧
    [Direction.cutIn, .cutOut].map Direction.code = [1, 2] ∧
    [SwitchPhase.queued, .ramping, .opened].map SwitchPhase.code = [1, 2, 3] ∧
    [SwitchResult.none, .completed, .cancelled, .expired, .rampFailed, .aeCancelled].map SwitchResult.code =
      [0, 1, 2, 3, 4, 5] ∧
    [UnitState.absent, .idle, .serving, .tripping, .locked, .lost].map UnitState.code = [0, 1, 2, 3, 4, 5] ∧
    [NodeKind.potNode, .unitNode].map kindCode = [1, 2] ∧ [Presence.active, .absent].map Presence.code = [1, 2] ∧
    [LineMode.adopt, .run, .hold].map LineMode.code = [0, 1, 2] ∧
    [Governing.adopt, .hold, .ramp, .frozen, .switching, .capacity, .voltage, .floor, .demand, .request].map
      Governing.code = [0, 1, 2, 3, 4, 5, 6, 7, 8, 9] ∧
    [GovernorState.off, .limiting].map GovernorState.code = [0, 1] ∧
    [TripCause.none, .temperature, .flow, .lineMaster].map TripCause.code = [0, 1, 2, 3] ∧
    (∀ r : PotRecord, r.phaseCode = match r.switch with | some w => w.phase.code | none => 0))

/-- R187, R192: a frame with a character at fault (mark 1, a framing error) or not of good structure is FORM; one
whose length, code, payload and sum do not add up to 0 modulo 256 is SUM; one whose code is not a request of the
node's kind, or of the line master, is UNKNOWN; one whose payload has not the size of R199, or whose end marker is 3Dh
on another request than LOAD TARIFF, is FORM; every other is OK and is a request. That a lone start marker is FORM is
the model's choice (notes/assumptions/29). -/
def Obligations.FramesAreJudgedInOrder : Prop :=
  (∀ (kind : NodeKind) (f : List FieldChar),
    let bytes := f.map FieldChar.data
    let codes := match kind with
      | .potNode => [1, 2, 3, 4, 5, 7]
      | .unitNode => [6, 7]
    (((∃ c ∈ f, c.mark = true) ∨ ∀ code payload sum, ¬shaped [0x3C] bytes code payload sum) →
      judgeField kind f = (.form, none)) ∧
    (∀ code payload sum, (∀ c ∈ f, c.mark = false) → shaped [0x3C] bytes code payload sum →
      let zero := frameTotal code payload sum % 256 = 0
      let right := ∃ sizes, (code.toNat, sizes) ∈ fieldSizes ∧ payload.length ∈ sizes
      (¬zero → judgeField kind f = (.sum, none)) ∧
      (zero → code.toNat ∉ codes → judgeField kind f = (.unknown, none)) ∧
      (zero → code.toNat ∈ codes → ¬right → judgeField kind f = (.form, none)) ∧
      (zero → code.toNat ∈ codes → right → ∃ i, judgeField kind f = (.ok, some i)))) ∧
  (∀ f : List PortChar,
    let bytes := f.map PortChar.data
    (((∃ c ∈ f, c.framingError = true) ∨ ∀ code payload sum, ¬shaped [0x3C, 0x3D] bytes code payload sum) →
      judgePort f = (.form, none)) ∧
    (∀ code payload sum, (∀ c ∈ f, c.framingError = false) → shaped [0x3C, 0x3D] bytes code payload sum →
      let zero := frameTotal code payload sum % 256 = 0
      let known := code.toNat = 0x56 ∨ code.toNat ∈ lineSizes.map Prod.fst
      let right := lineSizeRight code.toNat payload ∧ (bytes.getLast? = some 0x3D → code.toNat = 0x56)
      (¬zero → judgePort f = (.sum, none)) ∧
      (zero → ¬known → judgePort f = (.unknown, none)) ∧
      (zero → known → ¬right → judgePort f = (.form, none)) ∧
      (zero → known → right → ∃ i, judgePort f = (.ok, some i))))

/-- R187, R189, R198, R199: the frame that spells a well-formed field request is judged OK for a node whose kind may
send it, and gives that request back with every operand. -/
def Obligations.FieldFrameGivesRequestBack : Prop :=
  ∀ (c : Instr) (code : Nat) (payload : List Byte) (frame : List FieldChar) (kind : NodeKind), c.wellFormed = true →
    fieldRequest c = some (code, payload) → encodeField c = some frame → fieldCode kind code = true →
    judgeField kind frame = (.ok, some c)

/-- R192, R198, R199: the frame that spells a well-formed line master request is judged OK and gives that request back
with every operand. That the point count of a LOAD TARIFF section is the number of points it carries is the model's
choice of operand (notes/assumptions/17). -/
def Obligations.LineFrameGivesRequestBack : Prop :=
  ∀ (c : Instr) (frame : List PortChar), c.wellFormed = true → encodeLine c = some frame → judgePort frame = (.ok, some c)
end

