-- ==== Sys2Proof/Laws/State.lean ====
section
/-! SUPPORT. What each field of the state is after each named update: one lemma per field per update, by unfolding once. -/

namespace Sys2Proof.Machine

/-! ### putPot -/

@[simp] theorem State.putPot_pots (s : State) (p : Nat) (r : PotRecord) : (s.putPot p r).pots = s.pots.put p r := rfl
@[simp] theorem State.putPot_quench (s : State) (p : Nat) (r : PotRecord) : (s.putPot p r).quench = s.quench := rfl
@[simp] theorem State.putPot_switching (s : State) (p : Nat) (r : PotRecord) : (s.putPot p r).switching = s.switching := rfl
@[simp] theorem State.putPot_units (s : State) (p : Nat) (r : PotRecord) : (s.putPot p r).units = s.units := rfl
@[simp] theorem State.putPot_current (s : State) (p : Nat) (r : PotRecord) : (s.putPot p r).current = s.current := rfl
@[simp] theorem State.putPot_meter (s : State) (p : Nat) (r : PotRecord) : (s.putPot p r).meter = s.meter := rfl
@[simp] theorem State.putPot_tariff (s : State) (p : Nat) (r : PotRecord) : (s.putPot p r).tariff = s.tariff := rfl
@[simp] theorem State.putPot_attention (s : State) (p : Nat) (r : PotRecord) : (s.putPot p r).attention = s.attention := rfl
@[simp] theorem State.putPot_field (s : State) (p : Nat) (r : PotRecord) : (s.putPot p r).field = s.field := rfl
@[simp] theorem State.putPot_port (s : State) (p : Nat) (r : PotRecord) : (s.putPot p r).port = s.port := rfl
@[simp] theorem State.putPot_pending (s : State) (p : Nat) (r : PotRecord) : (s.putPot p r).pending = s.pending := rfl

/-! ### putSlot -/

@[simp] theorem State.putSlot_pots (s : State) (k : Nat) (v : Option HeldSlot) : (s.putSlot k v).pots = s.pots := rfl
@[simp] theorem State.putSlot_quench (s : State) (k : Nat) (v : Option HeldSlot) : (s.putSlot k v).quench = { s.quench with slots := tput s.quench.slots k v } := rfl
@[simp] theorem State.putSlot_switching (s : State) (k : Nat) (v : Option HeldSlot) : (s.putSlot k v).switching = s.switching := rfl
@[simp] theorem State.putSlot_units (s : State) (k : Nat) (v : Option HeldSlot) : (s.putSlot k v).units = s.units := rfl
@[simp] theorem State.putSlot_current (s : State) (k : Nat) (v : Option HeldSlot) : (s.putSlot k v).current = s.current := rfl
@[simp] theorem State.putSlot_meter (s : State) (k : Nat) (v : Option HeldSlot) : (s.putSlot k v).meter = s.meter := rfl
@[simp] theorem State.putSlot_tariff (s : State) (k : Nat) (v : Option HeldSlot) : (s.putSlot k v).tariff = s.tariff := rfl
@[simp] theorem State.putSlot_attention (s : State) (k : Nat) (v : Option HeldSlot) : (s.putSlot k v).attention = s.attention := rfl
@[simp] theorem State.putSlot_field (s : State) (k : Nat) (v : Option HeldSlot) : (s.putSlot k v).field = s.field := rfl
@[simp] theorem State.putSlot_port (s : State) (k : Nat) (v : Option HeldSlot) : (s.putSlot k v).port = s.port := rfl
@[simp] theorem State.putSlot_pending (s : State) (k : Nat) (v : Option HeldSlot) : (s.putSlot k v).pending = s.pending := rfl

/-! ### withQuenchQueue -/

@[simp] theorem State.withQuenchQueue_pots (s : State) (q : List Nat) : (s.withQuenchQueue q).pots = s.pots := rfl
@[simp] theorem State.withQuenchQueue_quench (s : State) (q : List Nat) : (s.withQuenchQueue q).quench = { s.quench with queue := q } := rfl
@[simp] theorem State.withQuenchQueue_switching (s : State) (q : List Nat) : (s.withQuenchQueue q).switching = s.switching := rfl
@[simp] theorem State.withQuenchQueue_units (s : State) (q : List Nat) : (s.withQuenchQueue q).units = s.units := rfl
@[simp] theorem State.withQuenchQueue_current (s : State) (q : List Nat) : (s.withQuenchQueue q).current = s.current := rfl
@[simp] theorem State.withQuenchQueue_meter (s : State) (q : List Nat) : (s.withQuenchQueue q).meter = s.meter := rfl
@[simp] theorem State.withQuenchQueue_tariff (s : State) (q : List Nat) : (s.withQuenchQueue q).tariff = s.tariff := rfl
@[simp] theorem State.withQuenchQueue_attention (s : State) (q : List Nat) : (s.withQuenchQueue q).attention = s.attention := rfl
@[simp] theorem State.withQuenchQueue_field (s : State) (q : List Nat) : (s.withQuenchQueue q).field = s.field := rfl
@[simp] theorem State.withQuenchQueue_port (s : State) (q : List Nat) : (s.withQuenchQueue q).port = s.port := rfl
@[simp] theorem State.withQuenchQueue_pending (s : State) (q : List Nat) : (s.withQuenchQueue q).pending = s.pending := rfl

/-! ### withSwitchQueue -/

@[simp] theorem State.withSwitchQueue_pots (s : State) (q : List Nat) : (s.withSwitchQueue q).pots = s.pots := rfl
@[simp] theorem State.withSwitchQueue_quench (s : State) (q : List Nat) : (s.withSwitchQueue q).quench = s.quench := rfl
@[simp] theorem State.withSwitchQueue_switching (s : State) (q : List Nat) : (s.withSwitchQueue q).switching = { s.switching with queue := q } := rfl
@[simp] theorem State.withSwitchQueue_units (s : State) (q : List Nat) : (s.withSwitchQueue q).units = s.units := rfl
@[simp] theorem State.withSwitchQueue_current (s : State) (q : List Nat) : (s.withSwitchQueue q).current = s.current := rfl
@[simp] theorem State.withSwitchQueue_meter (s : State) (q : List Nat) : (s.withSwitchQueue q).meter = s.meter := rfl
@[simp] theorem State.withSwitchQueue_tariff (s : State) (q : List Nat) : (s.withSwitchQueue q).tariff = s.tariff := rfl
@[simp] theorem State.withSwitchQueue_attention (s : State) (q : List Nat) : (s.withSwitchQueue q).attention = s.attention := rfl
@[simp] theorem State.withSwitchQueue_field (s : State) (q : List Nat) : (s.withSwitchQueue q).field = s.field := rfl
@[simp] theorem State.withSwitchQueue_port (s : State) (q : List Nat) : (s.withSwitchQueue q).port = s.port := rfl
@[simp] theorem State.withSwitchQueue_pending (s : State) (q : List Nat) : (s.withSwitchQueue q).pending = s.pending := rfl

/-! ### putUnit -/

@[simp] theorem State.putUnit_pots (s : State) (u : Nat) (r : UnitRecord) : (s.putUnit u r).pots = s.pots := rfl
@[simp] theorem State.putUnit_quench (s : State) (u : Nat) (r : UnitRecord) : (s.putUnit u r).quench = s.quench := rfl
@[simp] theorem State.putUnit_switching (s : State) (u : Nat) (r : UnitRecord) : (s.putUnit u r).switching = s.switching := rfl
@[simp] theorem State.putUnit_units (s : State) (u : Nat) (r : UnitRecord) : (s.putUnit u r).units = tput s.units u r := rfl
@[simp] theorem State.putUnit_current (s : State) (u : Nat) (r : UnitRecord) : (s.putUnit u r).current = s.current := rfl
@[simp] theorem State.putUnit_meter (s : State) (u : Nat) (r : UnitRecord) : (s.putUnit u r).meter = s.meter := rfl
@[simp] theorem State.putUnit_tariff (s : State) (u : Nat) (r : UnitRecord) : (s.putUnit u r).tariff = s.tariff := rfl
@[simp] theorem State.putUnit_attention (s : State) (u : Nat) (r : UnitRecord) : (s.putUnit u r).attention = s.attention := rfl
@[simp] theorem State.putUnit_field (s : State) (u : Nat) (r : UnitRecord) : (s.putUnit u r).field = s.field := rfl
@[simp] theorem State.putUnit_port (s : State) (u : Nat) (r : UnitRecord) : (s.putUnit u r).port = s.port := rfl
@[simp] theorem State.putUnit_pending (s : State) (u : Nat) (r : UnitRecord) : (s.putUnit u r).pending = s.pending := rfl

/-! ### raise -/

@[simp] theorem State.raise_pots (s : State) (source : Source) (detail : Nat) : (s.raise source detail).pots = s.pots := rfl
@[simp] theorem State.raise_quench (s : State) (source : Source) (detail : Nat) : (s.raise source detail).quench = s.quench := rfl
@[simp] theorem State.raise_switching (s : State) (source : Source) (detail : Nat) : (s.raise source detail).switching = s.switching := rfl
@[simp] theorem State.raise_units (s : State) (source : Source) (detail : Nat) : (s.raise source detail).units = s.units := rfl
@[simp] theorem State.raise_current (s : State) (source : Source) (detail : Nat) : (s.raise source detail).current = s.current := rfl
@[simp] theorem State.raise_meter (s : State) (source : Source) (detail : Nat) : (s.raise source detail).meter = s.meter := rfl
@[simp] theorem State.raise_tariff (s : State) (source : Source) (detail : Nat) : (s.raise source detail).tariff = s.tariff := rfl
@[simp] theorem State.raise_attention (s : State) (source : Source) (detail : Nat) : (s.raise source detail).attention = s.attention.put source.code ((s.attention.source source.code).raised detail) := rfl
@[simp] theorem State.raise_field (s : State) (source : Source) (detail : Nat) : (s.raise source detail).field = s.field := rfl
@[simp] theorem State.raise_port (s : State) (source : Source) (detail : Nat) : (s.raise source detail).port = s.port := rfl
@[simp] theorem State.raise_pending (s : State) (source : Source) (detail : Nat) : (s.raise source detail).pending = s.pending := rfl

/-! ### withMoved -/

@[simp] theorem State.withMoved_pots (s : State) (l : Limits) (m : Nat × Governing) : (s.withMoved l m).pots = s.pots := rfl
@[simp] theorem State.withMoved_quench (s : State) (l : Limits) (m : Nat × Governing) : (s.withMoved l m).quench = s.quench := rfl
@[simp] theorem State.withMoved_switching (s : State) (l : Limits) (m : Nat × Governing) : (s.withMoved l m).switching = s.switching := rfl
@[simp] theorem State.withMoved_units (s : State) (l : Limits) (m : Nat × Governing) : (s.withMoved l m).units = s.units := rfl
@[simp] theorem State.withMoved_current (s : State) (l : Limits) (m : Nat × Governing) : (s.withMoved l m).current = { s.current with setpoint := m.1, governing := m.2, limits := l } := rfl
@[simp] theorem State.withMoved_meter (s : State) (l : Limits) (m : Nat × Governing) : (s.withMoved l m).meter = s.meter := rfl
@[simp] theorem State.withMoved_tariff (s : State) (l : Limits) (m : Nat × Governing) : (s.withMoved l m).tariff = s.tariff := rfl
@[simp] theorem State.withMoved_attention (s : State) (l : Limits) (m : Nat × Governing) : (s.withMoved l m).attention = s.attention := rfl
@[simp] theorem State.withMoved_field (s : State) (l : Limits) (m : Nat × Governing) : (s.withMoved l m).field = s.field := rfl
@[simp] theorem State.withMoved_port (s : State) (l : Limits) (m : Nat × Governing) : (s.withMoved l m).port = s.port := rfl
@[simp] theorem State.withMoved_pending (s : State) (l : Limits) (m : Nat × Governing) : (s.withMoved l m).pending = s.pending := rfl

/-! ### split -/

@[simp] theorem State.split_pots (s : State) : (s.split).pots = s.pots := rfl
@[simp] theorem State.split_quench (s : State) : (s.split).quench = s.quench := rfl
@[simp] theorem State.split_switching (s : State) : (s.split).switching = s.switching := rfl
@[simp] theorem State.split_units (s : State) : (s.split).units = s.units.mapIdx fun index u => { u with demand := s.splitDemand index u } := rfl
@[simp] theorem State.split_current (s : State) : (s.split).current = s.current := rfl
@[simp] theorem State.split_meter (s : State) : (s.split).meter = s.meter := rfl
@[simp] theorem State.split_tariff (s : State) : (s.split).tariff = s.tariff := rfl
@[simp] theorem State.split_attention (s : State) : (s.split).attention = s.attention := rfl
@[simp] theorem State.split_field (s : State) : (s.split).field = s.field := rfl
@[simp] theorem State.split_port (s : State) : (s.split).port = s.port := rfl
@[simp] theorem State.split_pending (s : State) : (s.split).pending = s.pending := rfl

/-! ### withParam -/

@[simp] theorem State.withParam_pots (s : State) (i v : Nat) : (s.withParam i v).pots = s.pots := rfl
@[simp] theorem State.withParam_quench (s : State) (i v : Nat) : (s.withParam i v).quench = s.quench := rfl
@[simp] theorem State.withParam_switching (s : State) (i v : Nat) : (s.withParam i v).switching = s.switching := rfl
@[simp] theorem State.withParam_units (s : State) (i v : Nat) : (s.withParam i v).units = s.units := rfl
@[simp] theorem State.withParam_current (s : State) (i v : Nat) : (s.withParam i v).current = { s.current with params := s.params.set i v } := rfl
@[simp] theorem State.withParam_meter (s : State) (i v : Nat) : (s.withParam i v).meter = s.meter := rfl
@[simp] theorem State.withParam_tariff (s : State) (i v : Nat) : (s.withParam i v).tariff = s.tariff := rfl
@[simp] theorem State.withParam_attention (s : State) (i v : Nat) : (s.withParam i v).attention = s.attention := rfl
@[simp] theorem State.withParam_field (s : State) (i v : Nat) : (s.withParam i v).field = s.field := rfl
@[simp] theorem State.withParam_port (s : State) (i v : Nat) : (s.withParam i v).port = s.port := rfl
@[simp] theorem State.withParam_pending (s : State) (i v : Nat) : (s.withParam i v).pending = s.pending := rfl

/-! ### withMode -/

@[simp] theorem State.withMode_pots (s : State) (mode : LineMode) : (s.withMode mode).pots = s.pots := rfl
@[simp] theorem State.withMode_quench (s : State) (mode : LineMode) : (s.withMode mode).quench = s.quench := rfl
@[simp] theorem State.withMode_switching (s : State) (mode : LineMode) : (s.withMode mode).switching = s.switching := rfl
@[simp] theorem State.withMode_units (s : State) (mode : LineMode) : (s.withMode mode).units = s.units := rfl
@[simp] theorem State.withMode_current (s : State) (mode : LineMode) : (s.withMode mode).current = { s.current with mode := mode } := rfl
@[simp] theorem State.withMode_meter (s : State) (mode : LineMode) : (s.withMode mode).meter = s.meter := rfl
@[simp] theorem State.withMode_tariff (s : State) (mode : LineMode) : (s.withMode mode).tariff = s.tariff := rfl
@[simp] theorem State.withMode_attention (s : State) (mode : LineMode) : (s.withMode mode).attention = s.attention := rfl
@[simp] theorem State.withMode_field (s : State) (mode : LineMode) : (s.withMode mode).field = s.field := rfl
@[simp] theorem State.withMode_port (s : State) (mode : LineMode) : (s.withMode mode).port = s.port := rfl
@[simp] theorem State.withMode_pending (s : State) (mode : LineMode) : (s.withMode mode).pending = s.pending := rfl

/-! ### withSetpoint -/

@[simp] theorem State.withSetpoint_pots (s : State) (v : Nat) : (s.withSetpoint v).pots = s.pots := rfl
@[simp] theorem State.withSetpoint_quench (s : State) (v : Nat) : (s.withSetpoint v).quench = s.quench := rfl
@[simp] theorem State.withSetpoint_switching (s : State) (v : Nat) : (s.withSetpoint v).switching = s.switching := rfl
@[simp] theorem State.withSetpoint_units (s : State) (v : Nat) : (s.withSetpoint v).units = s.units := rfl
@[simp] theorem State.withSetpoint_current (s : State) (v : Nat) : (s.withSetpoint v).current = { s.current with setpoint := v } := rfl
@[simp] theorem State.withSetpoint_meter (s : State) (v : Nat) : (s.withSetpoint v).meter = s.meter := rfl
@[simp] theorem State.withSetpoint_tariff (s : State) (v : Nat) : (s.withSetpoint v).tariff = s.tariff := rfl
@[simp] theorem State.withSetpoint_attention (s : State) (v : Nat) : (s.withSetpoint v).attention = s.attention := rfl
@[simp] theorem State.withSetpoint_field (s : State) (v : Nat) : (s.withSetpoint v).field = s.field := rfl
@[simp] theorem State.withSetpoint_port (s : State) (v : Nat) : (s.withSetpoint v).port = s.port := rfl
@[simp] theorem State.withSetpoint_pending (s : State) (v : Nat) : (s.withSetpoint v).pending = s.pending := rfl

/-! ### dividerAdvanced -/

@[simp] theorem State.dividerAdvanced_pots (s : State) : (s.dividerAdvanced).pots = s.pots := rfl
@[simp] theorem State.dividerAdvanced_quench (s : State) : (s.dividerAdvanced).quench = s.quench := rfl
@[simp] theorem State.dividerAdvanced_switching (s : State) : (s.dividerAdvanced).switching = s.switching := rfl
@[simp] theorem State.dividerAdvanced_units (s : State) : (s.dividerAdvanced).units = s.units := rfl
@[simp] theorem State.dividerAdvanced_current (s : State) : (s.dividerAdvanced).current = s.current := rfl
@[simp] theorem State.dividerAdvanced_meter (s : State) : (s.dividerAdvanced).meter = { s.meter with divider := (s.meter.divider + 1) % 2 } := rfl
@[simp] theorem State.dividerAdvanced_tariff (s : State) : (s.dividerAdvanced).tariff = s.tariff := rfl
@[simp] theorem State.dividerAdvanced_attention (s : State) : (s.dividerAdvanced).attention = s.attention := rfl
@[simp] theorem State.dividerAdvanced_field (s : State) : (s.dividerAdvanced).field = s.field := rfl
@[simp] theorem State.dividerAdvanced_port (s : State) : (s.dividerAdvanced).port = s.port := rfl
@[simp] theorem State.dividerAdvanced_pending (s : State) : (s.dividerAdvanced).pending = s.pending := rfl

/-! ### withMeter -/

@[simp] theorem State.withMeter_pots (s : State) (m : DemandMeter) : (s.withMeter m).pots = s.pots := rfl
@[simp] theorem State.withMeter_quench (s : State) (m : DemandMeter) : (s.withMeter m).quench = s.quench := rfl
@[simp] theorem State.withMeter_switching (s : State) (m : DemandMeter) : (s.withMeter m).switching = s.switching := rfl
@[simp] theorem State.withMeter_units (s : State) (m : DemandMeter) : (s.withMeter m).units = s.units := rfl
@[simp] theorem State.withMeter_current (s : State) (m : DemandMeter) : (s.withMeter m).current = s.current := rfl
@[simp] theorem State.withMeter_meter (s : State) (m : DemandMeter) : (s.withMeter m).meter = m := rfl
@[simp] theorem State.withMeter_tariff (s : State) (m : DemandMeter) : (s.withMeter m).tariff = s.tariff := rfl
@[simp] theorem State.withMeter_attention (s : State) (m : DemandMeter) : (s.withMeter m).attention = s.attention := rfl
@[simp] theorem State.withMeter_field (s : State) (m : DemandMeter) : (s.withMeter m).field = s.field := rfl
@[simp] theorem State.withMeter_port (s : State) (m : DemandMeter) : (s.withMeter m).port = s.port := rfl
@[simp] theorem State.withMeter_pending (s : State) (m : DemandMeter) : (s.withMeter m).pending = s.pending := rfl

/-! ### withAttention -/

@[simp] theorem State.withAttention_pots (s : State) (a : AttentionUnit) : (s.withAttention a).pots = s.pots := rfl
@[simp] theorem State.withAttention_quench (s : State) (a : AttentionUnit) : (s.withAttention a).quench = s.quench := rfl
@[simp] theorem State.withAttention_switching (s : State) (a : AttentionUnit) : (s.withAttention a).switching = s.switching := rfl
@[simp] theorem State.withAttention_units (s : State) (a : AttentionUnit) : (s.withAttention a).units = s.units := rfl
@[simp] theorem State.withAttention_current (s : State) (a : AttentionUnit) : (s.withAttention a).current = s.current := rfl
@[simp] theorem State.withAttention_meter (s : State) (a : AttentionUnit) : (s.withAttention a).meter = s.meter := rfl
@[simp] theorem State.withAttention_tariff (s : State) (a : AttentionUnit) : (s.withAttention a).tariff = s.tariff := rfl
@[simp] theorem State.withAttention_attention (s : State) (a : AttentionUnit) : (s.withAttention a).attention = a := rfl
@[simp] theorem State.withAttention_field (s : State) (a : AttentionUnit) : (s.withAttention a).field = s.field := rfl
@[simp] theorem State.withAttention_port (s : State) (a : AttentionUnit) : (s.withAttention a).port = s.port := rfl
@[simp] theorem State.withAttention_pending (s : State) (a : AttentionUnit) : (s.withAttention a).pending = s.pending := rfl

/-! ### withField -/

@[simp] theorem State.withField_pots (s : State) (f : FieldLink) : (s.withField f).pots = s.pots := rfl
@[simp] theorem State.withField_quench (s : State) (f : FieldLink) : (s.withField f).quench = s.quench := rfl
@[simp] theorem State.withField_switching (s : State) (f : FieldLink) : (s.withField f).switching = s.switching := rfl
@[simp] theorem State.withField_units (s : State) (f : FieldLink) : (s.withField f).units = s.units := rfl
@[simp] theorem State.withField_current (s : State) (f : FieldLink) : (s.withField f).current = s.current := rfl
@[simp] theorem State.withField_meter (s : State) (f : FieldLink) : (s.withField f).meter = s.meter := rfl
@[simp] theorem State.withField_tariff (s : State) (f : FieldLink) : (s.withField f).tariff = s.tariff := rfl
@[simp] theorem State.withField_attention (s : State) (f : FieldLink) : (s.withField f).attention = s.attention := rfl
@[simp] theorem State.withField_field (s : State) (f : FieldLink) : (s.withField f).field = f := rfl
@[simp] theorem State.withField_port (s : State) (f : FieldLink) : (s.withField f).port = s.port := rfl
@[simp] theorem State.withField_pending (s : State) (f : FieldLink) : (s.withField f).pending = s.pending := rfl

/-! ### withPort -/

@[simp] theorem State.withPort_pots (s : State) (p : LinePort) : (s.withPort p).pots = s.pots := rfl
@[simp] theorem State.withPort_quench (s : State) (p : LinePort) : (s.withPort p).quench = s.quench := rfl
@[simp] theorem State.withPort_switching (s : State) (p : LinePort) : (s.withPort p).switching = s.switching := rfl
@[simp] theorem State.withPort_units (s : State) (p : LinePort) : (s.withPort p).units = s.units := rfl
@[simp] theorem State.withPort_current (s : State) (p : LinePort) : (s.withPort p).current = s.current := rfl
@[simp] theorem State.withPort_meter (s : State) (p : LinePort) : (s.withPort p).meter = s.meter := rfl
@[simp] theorem State.withPort_tariff (s : State) (p : LinePort) : (s.withPort p).tariff = s.tariff := rfl
@[simp] theorem State.withPort_attention (s : State) (p : LinePort) : (s.withPort p).attention = s.attention := rfl
@[simp] theorem State.withPort_field (s : State) (p : LinePort) : (s.withPort p).field = s.field := rfl
@[simp] theorem State.withPort_port (s : State) (p : LinePort) : (s.withPort p).port = p := rfl
@[simp] theorem State.withPort_pending (s : State) (p : LinePort) : (s.withPort p).pending = s.pending := rfl

/-! ### withLoad -/

@[simp] theorem State.withLoad_pots (s : State) (load : Option TariffLoad) : (s.withLoad load).pots = s.pots := rfl
@[simp] theorem State.withLoad_quench (s : State) (load : Option TariffLoad) : (s.withLoad load).quench = s.quench := rfl
@[simp] theorem State.withLoad_switching (s : State) (load : Option TariffLoad) : (s.withLoad load).switching = s.switching := rfl
@[simp] theorem State.withLoad_units (s : State) (load : Option TariffLoad) : (s.withLoad load).units = s.units := rfl
@[simp] theorem State.withLoad_current (s : State) (load : Option TariffLoad) : (s.withLoad load).current = s.current := rfl
@[simp] theorem State.withLoad_meter (s : State) (load : Option TariffLoad) : (s.withLoad load).meter = s.meter := rfl
@[simp] theorem State.withLoad_tariff (s : State) (load : Option TariffLoad) : (s.withLoad load).tariff = { s.tariff with load := load } := rfl
@[simp] theorem State.withLoad_attention (s : State) (load : Option TariffLoad) : (s.withLoad load).attention = s.attention := rfl
@[simp] theorem State.withLoad_field (s : State) (load : Option TariffLoad) : (s.withLoad load).field = s.field := rfl
@[simp] theorem State.withLoad_port (s : State) (load : Option TariffLoad) : (s.withLoad load).port = s.port := rfl
@[simp] theorem State.withLoad_pending (s : State) (load : Option TariffLoad) : (s.withLoad load).pending = s.pending := rfl

/-! ### abandonLoad -/

@[simp] theorem State.abandonLoad_pots (s : State) : (s.abandonLoad).pots = s.pots := rfl
@[simp] theorem State.abandonLoad_quench (s : State) : (s.abandonLoad).quench = s.quench := rfl
@[simp] theorem State.abandonLoad_switching (s : State) : (s.abandonLoad).switching = s.switching := rfl
@[simp] theorem State.abandonLoad_units (s : State) : (s.abandonLoad).units = s.units := rfl
@[simp] theorem State.abandonLoad_current (s : State) : (s.abandonLoad).current = s.current := rfl
@[simp] theorem State.abandonLoad_meter (s : State) : (s.abandonLoad).meter = s.meter := rfl
@[simp] theorem State.abandonLoad_tariff (s : State) : (s.abandonLoad).tariff = { s.tariff with load := none } := rfl
@[simp] theorem State.abandonLoad_attention (s : State) : (s.abandonLoad).attention = s.attention := rfl
@[simp] theorem State.abandonLoad_field (s : State) : (s.abandonLoad).field = s.field := rfl
@[simp] theorem State.abandonLoad_port (s : State) : (s.abandonLoad).port = s.port := rfl
@[simp] theorem State.abandonLoad_pending (s : State) : (s.abandonLoad).pending = s.pending := rfl

/-! ### sendFrames -/

@[simp] theorem State.sendFrames_pots (s : State) (first : Reply) (due : List Reply) : (s.sendFrames first due).pots = s.pots := rfl
@[simp] theorem State.sendFrames_quench (s : State) (first : Reply) (due : List Reply) : (s.sendFrames first due).quench = s.quench := rfl
@[simp] theorem State.sendFrames_switching (s : State) (first : Reply) (due : List Reply) : (s.sendFrames first due).switching = s.switching := rfl
@[simp] theorem State.sendFrames_units (s : State) (first : Reply) (due : List Reply) : (s.sendFrames first due).units = s.units := rfl
@[simp] theorem State.sendFrames_current (s : State) (first : Reply) (due : List Reply) : (s.sendFrames first due).current = s.current := rfl
@[simp] theorem State.sendFrames_meter (s : State) (first : Reply) (due : List Reply) : (s.sendFrames first due).meter = s.meter := rfl
@[simp] theorem State.sendFrames_tariff (s : State) (first : Reply) (due : List Reply) : (s.sendFrames first due).tariff = s.tariff := rfl
@[simp] theorem State.sendFrames_attention (s : State) (first : Reply) (due : List Reply) : (s.sendFrames first due).attention = s.attention := rfl
@[simp] theorem State.sendFrames_field (s : State) (first : Reply) (due : List Reply) : (s.sendFrames first due).field = s.field := rfl
@[simp] theorem State.sendFrames_port (s : State) (first : Reply) (due : List Reply) : (s.sendFrames first due).port = { s.port with reply := some first, due := due } := rfl
@[simp] theorem State.sendFrames_pending (s : State) (first : Reply) (due : List Reply) : (s.sendFrames first due).pending = s.pending := rfl

/-! ### clearDailyCounts -/

@[simp] theorem State.clearDailyCounts_pots (s : State) : (s.clearDailyCounts).pots = { s.pots with table := s.pots.table.mapIdx fun _ r => { r with aeCount := 0, aeSeconds := 0 } } := rfl
@[simp] theorem State.clearDailyCounts_quench (s : State) : (s.clearDailyCounts).quench = s.quench := rfl
@[simp] theorem State.clearDailyCounts_switching (s : State) : (s.clearDailyCounts).switching = s.switching := rfl
@[simp] theorem State.clearDailyCounts_units (s : State) : (s.clearDailyCounts).units = s.units := rfl
@[simp] theorem State.clearDailyCounts_current (s : State) : (s.clearDailyCounts).current = s.current := rfl
@[simp] theorem State.clearDailyCounts_meter (s : State) : (s.clearDailyCounts).meter = s.meter := rfl
@[simp] theorem State.clearDailyCounts_tariff (s : State) : (s.clearDailyCounts).tariff = s.tariff := rfl
@[simp] theorem State.clearDailyCounts_attention (s : State) : (s.clearDailyCounts).attention = s.attention := rfl
@[simp] theorem State.clearDailyCounts_field (s : State) : (s.clearDailyCounts).field = s.field := rfl
@[simp] theorem State.clearDailyCounts_port (s : State) : (s.clearDailyCounts).port = s.port := rfl
@[simp] theorem State.clearDailyCounts_pending (s : State) : (s.clearDailyCounts).pending = s.pending := rfl

/-! ### nodeAnswered -/

@[simp] theorem State.nodeAnswered_pots (s : State) : (s.nodeAnswered).pots = s.pots := rfl
@[simp] theorem State.nodeAnswered_quench (s : State) : (s.nodeAnswered).quench = s.quench := rfl
@[simp] theorem State.nodeAnswered_switching (s : State) : (s.nodeAnswered).switching = s.switching := rfl
@[simp] theorem State.nodeAnswered_units (s : State) : (s.nodeAnswered).units = s.units := rfl
@[simp] theorem State.nodeAnswered_current (s : State) : (s.nodeAnswered).current = s.current := rfl
@[simp] theorem State.nodeAnswered_meter (s : State) : (s.nodeAnswered).meter = s.meter := rfl
@[simp] theorem State.nodeAnswered_tariff (s : State) : (s.nodeAnswered).tariff = s.tariff := rfl
@[simp] theorem State.nodeAnswered_attention (s : State) : (s.nodeAnswered).attention = s.attention := rfl
@[simp] theorem State.nodeAnswered_field (s : State) : (s.nodeAnswered).field = s.field.changeHolder RingEntry.answered := rfl
@[simp] theorem State.nodeAnswered_port (s : State) : (s.nodeAnswered).port = s.port := rfl
@[simp] theorem State.nodeAnswered_pending (s : State) : (s.nodeAnswered).pending = s.pending := rfl

/-! ### sendFieldReply -/

@[simp] theorem State.sendFieldReply_pots (s : State) (r : Reply) : (s.sendFieldReply r).pots = s.pots := rfl
@[simp] theorem State.sendFieldReply_quench (s : State) (r : Reply) : (s.sendFieldReply r).quench = s.quench := rfl
@[simp] theorem State.sendFieldReply_switching (s : State) (r : Reply) : (s.sendFieldReply r).switching = s.switching := rfl
@[simp] theorem State.sendFieldReply_units (s : State) (r : Reply) : (s.sendFieldReply r).units = s.units := rfl
@[simp] theorem State.sendFieldReply_current (s : State) (r : Reply) : (s.sendFieldReply r).current = s.current := rfl
@[simp] theorem State.sendFieldReply_meter (s : State) (r : Reply) : (s.sendFieldReply r).meter = s.meter := rfl
@[simp] theorem State.sendFieldReply_tariff (s : State) (r : Reply) : (s.sendFieldReply r).tariff = s.tariff := rfl
@[simp] theorem State.sendFieldReply_attention (s : State) (r : Reply) : (s.sendFieldReply r).attention = s.attention := rfl
@[simp] theorem State.sendFieldReply_field (s : State) (r : Reply) : (s.sendFieldReply r).field = { s.field with
      reply := some r, turn := s.field.turn.map fun t => { t with phase := TurnPhase.reply } } := rfl
@[simp] theorem State.sendFieldReply_port (s : State) (r : Reply) : (s.sendFieldReply r).port = s.port := rfl
@[simp] theorem State.sendFieldReply_pending (s : State) (r : Reply) : (s.sendFieldReply r).pending = s.pending := rfl

/-! ### withPending -/

@[simp] theorem State.withPending_pots (s : State) (commands : List Instr) : (s.withPending commands).pots = s.pots := rfl
@[simp] theorem State.withPending_quench (s : State) (commands : List Instr) : (s.withPending commands).quench = s.quench := rfl
@[simp] theorem State.withPending_switching (s : State) (commands : List Instr) : (s.withPending commands).switching = s.switching := rfl
@[simp] theorem State.withPending_units (s : State) (commands : List Instr) : (s.withPending commands).units = s.units := rfl
@[simp] theorem State.withPending_current (s : State) (commands : List Instr) : (s.withPending commands).current = s.current := rfl
@[simp] theorem State.withPending_meter (s : State) (commands : List Instr) : (s.withPending commands).meter = s.meter := rfl
@[simp] theorem State.withPending_tariff (s : State) (commands : List Instr) : (s.withPending commands).tariff = s.tariff := rfl
@[simp] theorem State.withPending_attention (s : State) (commands : List Instr) : (s.withPending commands).attention = s.attention := rfl
@[simp] theorem State.withPending_field (s : State) (commands : List Instr) : (s.withPending commands).field = s.field := rfl
@[simp] theorem State.withPending_port (s : State) (commands : List Instr) : (s.withPending commands).port = s.port := rfl
@[simp] theorem State.withPending_pending (s : State) (commands : List Instr) : (s.withPending commands).pending = commands := rfl

end Sys2Proof.Machine
end

