-- ==== Sys2Proof/Laws/Tables.lean ====
section
/-! SUPPORT. Tables numbered from 1, the one write of a pot record, and reads of a record, a unit and a slot after each
named update. -/

namespace Sys2Proof.Machine

/-! ### Tables numbered from 1 -/

theorem tget_tput_same {α : Type} {n : Nat} (d : α) (t : Vector α n) (k : Nat) (a : α) (low : 1 ≤ k) (high : k ≤ n) :
    tget d (tput t k a) k = a := by
  obtain ⟨j, rfl⟩ : ∃ j, k = j + 1 := ⟨k - 1, by omega⟩
  have : j < n := by omega
  simp [tget, tput, this]

theorem tget_tput_other {α : Type} {n : Nat} (d : α) (t : Vector α n) (k j : Nat) (a : α) (differ : j ≠ k) :
    tget d (tput t k a) j = tget d t j := by
  cases k with
  | zero => rfl
  | succ k =>
    cases j with
    | zero => rfl
    | succ j =>
      have : k ≠ j := by omega
      simp [tget, tput, this]

theorem tget_outside {α : Type} {n : Nat} (d : α) (t : Vector α n) (k : Nat) (out : k = 0 ∨ n < k) : tget d t k = d := by
  cases k with
  | zero => rfl
  | succ k =>
    have : n ≤ k := by omega
    simp [tget, this]

theorem isPosition_iff (p : Nat) : isPosition p = true ↔ 1 ≤ p ∧ p ≤ 384 := by
  simp [isPosition, potCount]

theorem isUnit_iff (u : Nat) : isUnit u = true ↔ 1 ≤ u ∧ u ≤ 8 := by
  simp [isUnit, unitCount]

theorem isNode_iff (a : Nat) : isNode a = true ↔ 1 ≤ a ∧ a ≤ 62 := by
  simp [isNode, topNode]

/-! ### The Pot Register -/

theorem PotRegister.put_table (g : PotRegister) (p : Nat) (r : PotRecord) (known : isPosition p = true) :
    (g.put p r).table = tput g.table p r := by
  simp [PotRegister.put, known]

theorem PotRegister.put_outside (g : PotRegister) (p : Nat) (r : PotRecord) (out : isPosition p = false) :
    g.put p r = g := by
  simp [PotRegister.put, out]

theorem State.pot_putPot_same (s : State) (p : Nat) (r : PotRecord) (known : isPosition p = true) :
    (s.putPot p r).pot p = r := by
  have bounds := (isPosition_iff p).mp known
  simp [State.pot, PotRegister.put_table _ _ _ known, tget_tput_same _ _ _ _ bounds.1 bounds.2]

theorem State.pot_putPot_other (s : State) (p q : Nat) (r : PotRecord) (differ : q ≠ p) :
    (s.putPot p r).pot q = s.pot q := by
  by_cases known : isPosition p = true
  · simp [State.pot, PotRegister.put_table _ _ _ known, tget_tput_other _ _ _ _ _ differ]
  · simp only [Bool.not_eq_true] at known
    simp [State.pot, PotRegister.put_outside _ _ _ known]

/-- What one write of a pot record does to the line sums (R24). -/
theorem PotRegister.put_sums (g : PotRegister) (p : Nat) (r : PotRecord) (known : isPosition p = true) :
    let old := tget PotRecord.empty g.table p
    (g.put p r).nIn = g.nIn + r.countIn - old.countIn ∧ (g.put p r).nOut = g.nOut + r.countOut - old.countOut ∧
      (g.put p r).sumR = g.sumR + r.shareR - old.shareR ∧ (g.put p r).sumV = g.sumV + r.shareV - old.shareV := by
  simp [PotRegister.put, known]

/-! ### Reads after the updates of other parts -/

theorem State.pot_congr {s t : State} (same : t.pots = s.pots) (p : Nat) : t.pot p = s.pot p := by
  simp [State.pot, same]

theorem State.unit_congr {s t : State} (same : t.units = s.units) (u : Nat) : t.unit u = s.unit u := by
  simp [State.unit, same]

theorem State.slot_congr {s t : State} (same : t.quench = s.quench) (k : Nat) : t.slot k = s.slot k := by
  simp [State.slot, same]

theorem State.unit_putUnit_same (s : State) (u : Nat) (r : UnitRecord) (known : isUnit u = true) :
    (s.putUnit u r).unit u = r := by
  have bounds := (isUnit_iff u).mp known
  simp [State.unit, tget_tput_same _ _ _ _ bounds.1 bounds.2]

theorem State.unit_putUnit_other (s : State) (u v : Nat) (r : UnitRecord) (differ : v ≠ u) :
    (s.putUnit u r).unit v = s.unit v := by
  simp [State.unit, tget_tput_other _ _ _ _ _ differ]

theorem State.slot_putSlot_same (s : State) (k : Nat) (v : Option HeldSlot) (low : 1 ≤ k) (high : k ≤ 4) :
    (s.putSlot k v).slot k = v := by
  simp [State.slot, tget_tput_same _ _ _ _ low high]

theorem State.slot_putSlot_other (s : State) (k j : Nat) (v : Option HeldSlot) (differ : j ≠ k) :
    (s.putSlot k v).slot j = s.slot j := by
  simp [State.slot, tget_tput_other _ _ _ _ _ differ]

theorem AttentionUnit.source_put_same (a : AttentionUnit) (c : Nat) (r : SourceRecord) (low : 1 ≤ c) (high : c ≤ 12) :
    (a.put c r).source c = r := by
  simp [AttentionUnit.put, AttentionUnit.settle, AttentionUnit.source, tget_tput_same _ _ _ _ low high]

theorem AttentionUnit.source_put_other (a : AttentionUnit) (c d : Nat) (r : SourceRecord) (differ : d ≠ c) :
    (a.put c r).source d = a.source d := by
  simp [AttentionUnit.put, AttentionUnit.settle, AttentionUnit.source, tget_tput_other _ _ _ _ _ differ]

@[simp] theorem AttentionUnit.put_mask (a : AttentionUnit) (c : Nat) (r : SourceRecord) : (a.put c r).mask = a.mask := rfl

end Sys2Proof.Machine
end

