-- ==== Sys2Proof/Laws/Frames.lean ====
section
/-! SUPPORT. What the shared operations leave alone: an evaluation of the limit chain, a grant, a grant evaluation, the switch
queue's advance; what a request on either link does where it is not taken; and the band in effect. -/

namespace Sys2Proof.Machine

/-! ### An evaluation (R112, R113) -/

/-- The parts of the block that an evaluation or a grant evaluation never changes. -/
structure State.SameLinks (s t : State) : Prop where
  switching : t.switching = s.switching
  meter : t.meter = s.meter
  tariff : t.tariff = s.tariff
  field : t.field = s.field
  port : t.port = s.port
  pending : t.pending = s.pending
  mode : t.current.mode = s.current.mode
  target : t.current.target = s.current.target
  params : t.current.params = s.current.params

theorem State.SameLinks.refl (s : State) : s.SameLinks s :=
  ⟨rfl, rfl, rfl, rfl, rfl, rfl, rfl, rfl, rfl⟩

theorem State.SameLinks.trans {s t u : State} (a : s.SameLinks t) (b : t.SameLinks u) : s.SameLinks u :=
  ⟨b.switching.trans a.switching, b.meter.trans a.meter, b.tariff.trans a.tariff, b.field.trans a.field,
    b.port.trans a.port, b.pending.trans a.pending, b.mode.trans a.mode, b.target.trans a.target, b.params.trans a.params⟩

theorem State.noteVoltage_cases (s : State) (before : Governing) :
    s.noteVoltage before = s ∨ s.noteVoltage before = s.raise .voltageLimit 0 := by
  unfold State.noteVoltage
  split <;> simp

theorem State.splitInMode_cases (s : State) : s.splitInMode = s ∨ s.splitInMode = s.split := by
  unfold State.splitInMode
  split <;> simp

theorem State.evaluate_links (s : State) (cycle : Bool) : s.SameLinks (s.evaluate cycle) := by
  simp only [State.evaluate]
  rcases State.splitInMode_cases ((s.withMoved s.limitsNow (s.moved cycle s.limitsNow)).noteVoltage s.current.governing)
    with h | h <;> rw [h] <;>
  rcases State.noteVoltage_cases (s.withMoved s.limitsNow (s.moved cycle s.limitsNow)) s.current.governing
    with g | g <;> rw [g] <;> constructor <;> simp

/-- An evaluation leaves the Pot Register and the Quench Arbiter alone. -/
theorem State.evaluate_tables (s : State) (cycle : Bool) :
    (s.evaluate cycle).pots = s.pots ∧ (s.evaluate cycle).quench = s.quench := by
  simp only [State.evaluate]
  rcases State.splitInMode_cases ((s.withMoved s.limitsNow (s.moved cycle s.limitsNow)).noteVoltage s.current.governing)
    with h | h <;> rw [h] <;>
  rcases State.noteVoltage_cases (s.withMoved s.limitsNow (s.moved cycle s.limitsNow)) s.current.governing
    with g | g <;> rw [g] <;> simp

/-- The setpoint, the governing limit and the stored limits after an evaluation (R107, R112). -/
theorem State.evaluate_current (s : State) (cycle : Bool) :
    (s.evaluate cycle).current =
      { s.current with
        setpoint := (s.moved cycle s.limitsNow).1, governing := (s.moved cycle s.limitsNow).2, limits := s.limitsNow } := by
  simp only [State.evaluate]
  rcases State.splitInMode_cases ((s.withMoved s.limitsNow (s.moved cycle s.limitsNow)).noteVoltage s.current.governing)
    with h | h <;> rw [h] <;>
  rcases State.noteVoltage_cases (s.withMoved s.limitsNow (s.moved cycle s.limitsNow)) s.current.governing
    with g | g <;> rw [g] <;> simp

/-! ### Grants (R48 to R50) -/

theorem State.grant_links (s : State) (p slot : Nat) : s.SameLinks (s.grant p slot) := by
  refine State.SameLinks.trans ?_ (State.evaluate_links _ false)
  constructor <;> simp [State.leaveQuenchQueue]

theorem State.grantLoop_links (n : Nat) (s : State) : s.SameLinks (State.grantLoop n s) := by
  induction n generalizing s with
  | zero => exact State.SameLinks.refl s
  | succ n ih =>
    unfold State.grantLoop
    split
    · split
      · exact (State.grant_links s _ _).trans (ih _)
      · exact State.SameLinks.refl s
    · exact State.SameLinks.refl s

theorem State.grantEvaluation_links (s : State) : s.SameLinks s.grantEvaluation :=
  State.grantLoop_links 4 s

/-- A grant evaluation that does nothing: the queue is empty, no slot is FREE, or the head fails the test (R48). -/
theorem State.grantEvaluation_idle (s : State) (idle : s.quench.queue = [] ∨ s.freeSlot = none ∨ s.grantTest = false) :
    s.grantEvaluation = s := by
  unfold State.grantEvaluation State.grantLoop
  rcases idle with h | h | h
  · rw [h]
  · split
    · rename_i hq hf
      rw [h] at hf
      cases hf
    · rfl
  · split
    · rw [h]
      rfl
    · rfl

/-! ### What the grant test reads, after an evaluation (R48, R49) -/

/-- A split changes no V_max and no state, so V_cap stands (R102). -/
theorem State.split_vCap (s : State) : s.split.vCap = s.vCap := by
  have kept : ∀ (f : Nat → UnitRecord → Nat) (l : List UnitRecord),
      ((l.mapIdx fun i u => { u with demand := f i u }).filter UnitRecord.serving).map UnitRecord.vMax =
        (l.filter UnitRecord.serving).map UnitRecord.vMax := by
    intro f l
    induction l generalizing f with
    | nil => rfl
    | cons a l ih =>
      have same : UnitRecord.serving { a with demand := f 0 a } = UnitRecord.serving a := rfl
      rw [List.mapIdx_cons, List.filter_cons, List.filter_cons, same]
      split
      · rw [List.map_cons, List.map_cons]
        congr 1
        exact ih fun i => f (i + 1)
      · exact ih fun i => f (i + 1)
  simp [State.vCap, Vector.toList_mapIdx, kept]

theorem State.evaluate_vCap (s : State) (cycle : Bool) : (s.evaluate cycle).vCap = s.vCap := by
  have noted : ∀ (t : State) (before : Governing), (t.noteVoltage before).vCap = t.vCap := by
    intro t before
    rcases State.noteVoltage_cases t before with h | h <;> rw [h] <;> simp [State.vCap]
  simp only [State.evaluate]
  rcases State.splitInMode_cases ((s.withMoved s.limitsNow (s.moved cycle s.limitsNow)).noteVoltage s.current.governing)
    with h | h <;> rw [h]
  · rw [noted]; simp [State.vCap]
  · rw [State.split_vCap, noted]; simp [State.vCap]

theorem State.evaluate_grantTest (s : State) (cycle : Bool) : (s.evaluate cycle).grantTest = s.grantTest := by
  have tables := State.evaluate_tables s cycle
  have params := (State.evaluate_links s cycle).params
  simp [State.grantTest, State.heldSlots, State.params, State.voltageLimit, State.vlimNumerator, State.vlimDenominator,
    tables.1, tables.2, params, State.evaluate_vCap s cycle]

theorem State.evaluate_freeSlot (s : State) (cycle : Bool) : (s.evaluate cycle).freeSlot = s.freeSlot := by
  simp [State.freeSlot, State.slot, (State.evaluate_tables s cycle).2]

/-- The comparison of a dispatch cycle touches the Pot Register only (R70). -/
theorem State.compareHead_frame (s : State) : s.compareHead = { s with pots := s.compareHead.pots } := by
  unfold State.compareHead
  split
  · split <;> rfl
  · rfl

/-! ### The switch queue (R65) -/

/-- A switch record that leaves touches the Pot Register and the switch queue only. -/
theorem State.endSwitch_frame (s : State) (p : Nat) (result : SwitchResult) :
    s.endSwitch p result =
      { s with pots := (s.endSwitch p result).pots, switching := (s.endSwitch p result).switching } := by
  unfold State.endSwitch State.advanceSwitchQueue
  split
  · rfl
  · split
    · split <;> rfl
    · rfl

/-! ### Requests on the links (R165, R187, R194) -/

theorem State.loadFrame_taken (s : State) (serve : State → State × Reply) (taken : s.port.takes = true) :
    s.loadFrame serve = (serve s).1.sendFrames (serve s).2 [] := by
  simp [State.loadFrame, taken]

/-- A request whose characters arrive where the receiver takes no frame is discarded (R193, R194). -/
theorem State.loadFrame_discarded (s : State) (serve : State → State × Reply) (busy : s.port.takes = false) :
    s.loadFrame serve = s := by
  simp [State.loadFrame, busy]

theorem State.lineRequest_taken (s : State) (serve : State → State × Reply) (taken : s.port.takes = true) :
    s.lineRequest serve = (serve s.abandonLoad).1.sendFrames (serve s.abandonLoad).2 [] := by
  simp [State.lineRequest, State.loadFrame_taken, taken]

theorem State.lineRequest_discarded (s : State) (serve : State → State × Reply) (busy : s.port.takes = false) :
    s.lineRequest serve = s := by
  simp [State.lineRequest, State.loadFrame_discarded, busy]

theorem State.fieldRequest_taken (s : State) (kinds : List NodeKind) (serve : Nat → State → State × Reply) (t : Turn)
    (window : s.field.awaited = some t) (kind : kinds.contains t.kind = true) :
    s.fieldRequest kinds serve = (serve t.address s.nodeAnswered).1.sendFieldReply (serve t.address s.nodeAnswered).2 := by
  simp only [State.fieldRequest, window, kind, if_true]

theorem State.fieldRequest_unknown (s : State) (kinds : List NodeKind) (serve : Nat → State → State × Reply) (t : Turn)
    (window : s.field.awaited = some t) (kind : kinds.contains t.kind = false) :
    s.fieldRequest kinds serve = s.nodeAnswered.sendFieldReply (Reply.notTaken .unknown) := by
  simp only [State.fieldRequest, window, kind, Bool.false_eq_true, if_false]

theorem State.fieldRequest_outside (s : State) (kinds : List NodeKind) (serve : Nat → State → State × Reply)
    (closed : s.field.awaited = none) : s.fieldRequest kinds serve = s := by
  simp [State.fieldRequest, closed]

/-! ### A step (R180, R186) -/

/-- The end of a field reply touches the Field Link Controller only. -/
theorem State.replyEnded_frame (s : State) : s.replyEnded = { s with field := s.replyEnded.field } := by
  unfold State.replyEnded
  split <;> rfl

theorem State.replyEnded_quiet (s : State) (quiet : s.field.reply = none) : s.replyEnded = s := by
  simp [State.replyEnded, quiet]

theorem State.replyEnded_sending (s : State) (r : Reply) (sending : s.field.reply = some r) :
    s.replyEnded = s.withField s.field.turnEnded := by
  simp [State.replyEnded, sending]

theorem step_waiting (s : State) (c : Instr) (rest : List Instr) (front : s.pending = c :: rest) :
    step s = exec c (s.withPending rest) := by
  simp [step, front]

theorem step_idle (s : State) (empty : s.pending = []) : step s = .next s.replyEnded := by
  simp [step, empty]

/-- Every character of a reply on the field link has mark 0, and their data are the bytes of the reply (R190). -/
theorem Reply.fieldChars_spec (r : Reply) :
    (∀ c ∈ r.fieldChars, c.mark = false) ∧ r.fieldChars.map FieldChar.data = r.bytes := by
  simp [Reply.fieldChars, Function.comp_def]

/-! ### The start hold (R31) and a current's bytes (R198) -/

/-- A start hold runs exactly where its end lies 1 to 86,400 seconds ahead. -/
theorem PotRecord.holdRuns_iff (r : PotRecord) (now : Nat) :
    r.holdRuns now = true ↔ ∃ e, r.startHoldEnd = some e ∧ 1 ≤ age e now ∧ age e now ≤ 86400 := by
  have longest : longestHold = 86400 := rfl
  unfold PotRecord.holdRuns
  split <;> rename_i h <;> simp [h, ← longest]

theorem PotRecord.holdRuns_none (r : PotRecord) (now : Nat) (none : r.startHoldEnd = none) : r.holdRuns now = false := by
  simp [PotRecord.holdRuns, none]

theorem currentBytes_inRange (current : Nat) (fits : current ≤ 65535) : currentBytes current = be 2 current := by
  simp [currentBytes, topCurrent, fits]

/-! ### The band in effect (R163) -/

/-- The band in effect is that of the change point after which every point of the schedule lies later than the time. -/
theorem TariffTable.bandAt_last (t : TariffTable) (time day : Nat) (front back : List ChangePoint) (c : ChangePoint)
    (points : t.schedule day = front ++ c :: back) (reached : c.second ≤ time) (later : ∀ x ∈ back, time < x.second) :
    t.bandAt time day = c.band := by
  have none : back.filter (fun x => decide (x.second ≤ time)) = [] := by
    simp only [List.filter_eq_nil_iff, decide_eq_true_eq]
    intro x member
    have := later x member
    omega
  simp [TariffTable.bandAt, points, List.filter_append, reached, none]

theorem TariffTable.limitOf_of_get (t : TariffTable) (k l : Nat) (limit : t.limits[k]? = some l) : t.limitOf (k + 1) = l := by
  simp [TariffTable.limitOf, List.getD, limit]

/-! ### The quench queue (R45) -/

/-- A placement adds the pot and keeps every entry. -/
theorem mem_placeAhead (follows : Nat → Bool) (p q : Nat) (l : List Nat) :
    q ∈ placeAhead follows p l ↔ q = p ∨ q ∈ l := by
  induction l with
  | nil => simp [placeAhead]
  | cons x rest ih =>
    unfold placeAhead
    split
    · simp
    · simp only [List.mem_cons, ih]
      tauto

end Sys2Proof.Machine
end

