-- ==== Sys2Proof/Tests/Slice0.lean ====
section
/-! SUPPORT. Tests on fixed values: the checks of WellFormed, frames written out from the spec's layout, one step of each
family against the spec's worked figures, and a witness for the hypotheses of every statement that has any. -/

namespace Sys2Proof.Tests

open Sys2Proof.Machine Sys2Proof.Claims

set_option Elab.async false

/-! ### WellFormed: an ill-formed term for each check -/

theorem test_wellFormed_refuses_records : [Instr.potSilence 0, .startHoldExpiry 385, .escalation 0, .settleExpiry 385,
    .permitExpiry 5, .flowGraceExpiry 9, .unitSilence 0, .unitLoss 9].all (fun c => !c.wellFormed) = true := by
  decide +kernel

theorem test_wellFormed_refuses_field_requests : [Instr.potReport [], .potReport [⟨65536, 1, 0⟩], .potReport [⟨1, 256, 0⟩],
    .potReport [⟨1, 1, 65536⟩], .potReport (List.replicate 9 ⟨1, 1, 0⟩), .switchRequest 65536 1 1, .switchRequest 1 256 1,
    .switchRequest 1 1 256, .switchDone 65536 1, .switchDone 1 256, .switchCancel 1 256, .quenchEnd 65536 1,
    .unitReport 256 0 0 true true, .unitReport 1 65536 0 true true,
    .unitReport 1 0 65536 true true].all (fun c => !c.wellFormed) = true := by
  decide +kernel

theorem test_wellFormed_refuses_table_requests : [Instr.admitPot 65536 1 1 1, .admitPot 1 256 1 1, .admitPot 1 1 256 1,
    .admitPot 1 1 1 256, .retirePot 65536 1, .retirePot 1 256, .assignOwner 65536 1 1, .assignOwner 1 256 1,
    .assignOwner 1 1 256, .readPot 65536, .readPotRange 65536 1, .readPotRange 1 65536, .defineUnit 256 1 1 1 1 1,
    .defineUnit 1 256 1 1 1 1, .defineUnit 1 1 65536 1 1 1, .defineUnit 1 1 1 4294967296 1 1, .defineUnit 1 1 1 1 65536 1,
    .defineUnit 1 1 1 1 1 65536, .removeUnit 256, .tripUnit 256, .restoreUnit 256, .readUnit 256, .addNode 256 1,
    .addNode 1 256, .dropNode 256].all (fun c => !c.wellFormed) = true := by
  decide +kernel

theorem test_wellFormed_refuses_line_requests : [Instr.setTarget 65536, .setParam 256 0, .setParam 1 4294967296,
    .readParam 256, .setClock 4294967296 0, .setClock 0 256, .curtail 4294967296 1, .curtail 1 65536, .readTariff 256,
    .ackAttention 256 1, .ackAttention 1 256, .setAttentionMask 65536, .loadTariff (.header ⟨65536, 1, 0, 0, 0, 0, 0⟩) true,
    .loadTariff (.header ⟨900, 256, 0, 0, 0, 0, 0⟩) true, .loadTariff (.header ⟨900, 1, 0, 0, 0, 4294967296, 0⟩) true,
    .loadTariff (.header ⟨900, 1, 0, 0, 0, 0, 256⟩) true, .loadTariff (.working [⟨4294967296, 1⟩]) true,
    .loadTariff (.rest [⟨0, 256⟩]) true, .loadTariff (.rest (List.replicate 50 ⟨0, 1⟩)) true].all
      (fun c => !c.wellFormed) = true := by
  decide +kernel

/-- A refused frame has at least one character and, after a good start and with no character at fault, exactly the count its
length gives. -/
theorem test_wellFormed_refuses_frames : [Instr.lmFrameRefused [], .fieldFrameRefused [],
    .lmFrameRefused [⟨false, 0xC3⟩, ⟨false, 0x01⟩, ⟨false, 0x43⟩]].all (fun c => !c.wellFormed) = true := by
  decide +kernel

/-- R187, R192: a frame with a character of mark 1 or with a framing error ends at the silence, with any count. -/
theorem test_wellFormed_accepts_faulted_frames :
    [Instr.lmFrameRefused [⟨false, 0xC3⟩, ⟨true, 0x01⟩, ⟨false, 0x43⟩],
      .fieldFrameRefused [⟨false, 0xC3⟩, ⟨false, 0x05⟩, ⟨true, 0x02⟩]].all Instr.wellFormed = true := by
  decide +kernel

/-! ### Frames written out from R187, R192, R198 and R199 -/

/-- A line master frame without framing errors. -/
def portFrame (bytes : List Byte) : List PortChar :=
  bytes.map (⟨false, ·⟩)

/-- A field frame with mark bit 0 throughout. -/
def fieldFrame (bytes : List Byte) : List FieldChar :=
  bytes.map (⟨false, ·⟩)

/-- ACK ATTENTION of code 10, count 2: 03h + 61h + 0Ah + 02h + 90h = 100h. -/
theorem test_frame_ackAttention :
    judgePort (portFrame [0xC3, 0x03, 0x61, 0x0A, 0x02, 0x90, 0x3C]) = (.ok, some (.ackAttention 10 2)) := by
  decide +kernel

/-- SWITCH REQUEST, position 257, tag 9, OUT: 05h + 02h + 01h + 01h + 09h + 02h + ECh = 100h. -/
theorem test_frame_switchRequest :
    judgeField .potNode (fieldFrame [0xC3, 0x05, 0x02, 0x01, 0x01, 0x09, 0x02, 0xEC, 0x3C]) =
      (.ok, some (.switchRequest 257 9 2)) := by
  decide +kernel

/-- UNIT REPORT, unit 4, measured 5,700 (1644h), 540 (021Ch), flow ok and breaker closed (03h). -/
theorem test_frame_unitReport :
    judgeField .unitNode (fieldFrame [0xC3, 0x07, 0x06, 0x04, 0x16, 0x44, 0x02, 0x1C, 0x03, 0x74, 0x3C]) =
      (.ok, some (.unitReport 4 5700 540 true true)) := by
  decide +kernel

/-- SET TARGET 40,000 (9C40h): 03h + 40h + 9Ch + 40h + E1h = 200h. -/
theorem test_frame_setTarget :
    judgePort (portFrame [0xC3, 0x03, 0x40, 0x9C, 0x40, 0xE1, 0x3C]) = (.ok, some (.setTarget 40000)) := by
  decide +kernel

/-- RUN: 01h + 44h + BBh = 100h; the same frame with a wrong sum, with the continued marker, and from a field node. -/
theorem test_frame_judgement :
    judgePort (portFrame [0xC3, 0x01, 0x44, 0xBB, 0x3C]) = (.ok, some .run) ∧
    (judgePort (portFrame [0xC3, 0x01, 0x44, 0xBC, 0x3C])).1 = .sum ∧
    (judgePort (portFrame [0xC3, 0x01, 0x44, 0xBB, 0x3D])).1 = .form ∧
    (judgePort (portFrame [0xC3, 0x01, 0x47, 0xB8, 0x3C])).1 = .unknown ∧
    (judgePort [⟨false, 0xC3⟩, ⟨true, 0x01⟩, ⟨false, 0x44⟩, ⟨false, 0xBB⟩, ⟨false, 0x3C⟩]).1 = .form ∧
    (judgeField .unitNode (fieldFrame [0xC3, 0x04, 0x03, 0x00, 0x01, 0x01, 0xF7, 0x3C])).1 = .unknown := by
  decide +kernel

/-! ### The worked case of chapters 6.8 and 7 at line-second 300,000 -/

/-- The state a command leads to. -/
def after (c : Instr) (s : State) : State :=
  match exec c s with
  | .next t => t
  | _ => s

/-- A SERVING unit of the worked case. -/
def workedUnit (node measured temperature capacity : Nat) : UnitRecord :=
  { UnitRecord.empty with
    state := .serving, node := node, rated := 12000, vMax := 1400000, tDerate := 450, tTrip := 600, measured := measured
    temperature := temperature, breakerClosed := true, reportStamp := 299999, capacity := capacity
    derated := decide (capacity < 12000) }

/-- Pot 188 of the worked case, in anode effect in slot 1. -/
def pot188 : PotRecord :=
  { PotRecord.empty with
    circuit := .inCircuit, tag := 30, owner := some 23, voltage := 37605, reportStamp := 299995, resistance := 90000
    ae := .quenching, startStamp := some 299900, slot := some 1, aeCount := 1 }

/-- The worked case: the line before its first dispatch cycle, with the interval of the worked sequence of chapter 7. -/
def worked : State :=
  { State.reset with
    pots :=
      { table := tput (Vector.replicate 384 PotRecord.empty) 188 pot188
        nIn := 300, nOut := 4, sumR := 2003600, sumV := 1293398
        ownerCounts := tput (Vector.replicate 62 0) 23 1 }
    quench := { slots := tput (Vector.replicate 4 none) 1 (some ⟨188, 299900⟩), queue := [] }
    units :=
      tput (tput (tput (tput (Vector.replicate 8 UnitRecord.empty) 1 (workedUnit 5 11420 410 12000)) 2
        (workedUnit 6 11420 415 12000)) 3 (workedUnit 7 11420 405 12000)) 4 (workedUnit 8 5690 525 6000)
    current :=
      { State.reset.current with mode := .run, target := 40000, setpoint := 39963, governing := .ramp }
    meter :=
      { State.reset.meter with
        lineSeconds := 300000, timeOfDay := 36599, dayOfWeek := 2, dayCount := 42
        interval := ⟨36000, 900, 599, 359496378, 2, 560000⟩
        period := { PeriodFigures.empty with
          bands := tput (Vector.replicate 4 ⟨0, 0⟩) 2 ⟨1204377, 3100⟩, maximum := 552130, counted := 318, uncounted := 2 } }
    tariff := { State.reset.tariff with active := ⟨900, 2, [600000, 560000], 96, [⟨0, 1⟩, ⟨25200, 2⟩, ⟨79200, 1⟩], [⟨0, 1⟩]⟩ }
    field :=
      { State.reset.field with
        ring := [⟨23, .potNode, .active, 0, 0⟩, ⟨8, .unitNode, .active, 1, 0⟩], walk := some 0 } }

/-- The worked case in a turn of node 23, the pot controller. -/
def potTurn (s : State) : State :=
  { s with field := { s.field with walk := some 0, turn := some ⟨23, .potNode, true, .await⟩ } }

/-- The worked case in a turn of node 8, the regulator of unit 4. -/
def unitTurn (s : State) : State :=
  { s with field := { s.field with walk := some 1, turn := some ⟨8, .unitNode, true, .await⟩ } }

/-- The request status of the reply on the line master port. -/
def portStatus (s : State) : Option ReqStatus :=
  s.port.reply.map Reply.status

/-- The request status of the reply on the field link. -/
def fieldStatus (s : State) : Option ReqStatus :=
  s.field.reply.map Reply.status

/-- The unit demands 1 to 4. -/
def demands (s : State) : List Nat :=
  [1, 2, 3, 4].map fun u => (s.unit u).demand

/-- First dispatch cycle: the limits, the ramp, and the split with its shortfall of 3. -/
theorem test_dispatchCycle_ramp :
    let t := after (.dispatchCycle false) worked
    t.current.limits = ⟨42000, 42639, 65535, 65535, 65535, 40000⟩ ∧ t.current.setpoint = 39973 ∧
      t.current.governing = .ramp ∧ demands t = [11421, 11421, 11421, 5710] := by
  decide +kernel

/-- Units 1 and 2 silent with measured currents of 40,000 each, in ADOPT: what RUN finds. -/
def beyond : State :=
  let silent := { workedUnit 5 40000 410 12000 with silent := true, frozen := true, demand := 40000 }
  { (worked.putUnit 1 silent).putUnit 2 { silent with node := 6 } with
    current := { worked.current with mode := .adopt, setpoint := 0 } }

/-- R122, R125: F is the sum of the frozen demands, 80,000; the remainder and the eligible units' demands are 0. -/
theorem test_frozenSum_beyond :
    let t := after .run beyond
    t.frozenSum = 80000 ∧ t.current.setpoint = 80000 ∧ t.current.governing = .frozen ∧ demands t = [40000, 40000, 0, 0] := by
  decide +kernel

/-- The worked case's grant test: with k = 2 the current is 41,642. -/
theorem test_voltageLimit_grant : worked.voltageLimit 2 = 41642 := by decide +kernel

/-- Pot 188 reports 4,207: R 6,400, ΣR_in 1,920,000, slot 1 FREE, and I_vlim 45,535. -/
theorem test_potReport_endsEffect :
    let t := after (.potReport [⟨188, 30, 4207⟩]) (potTurn worked)
    (t.pot 188).resistance = 6400 ∧ t.pots.sumR = 1920000 ∧ t.pots.sumV = 1260000 ∧ (t.pot 188).ae = .none ∧
      t.slot 1 = none ∧ (t.pot 188).aeSeconds = 100 ∧ t.voltageLimit t.heldSlots = 45535 := by
  decide +kernel

/-- R17's table: 38,000 mV at 39,950 is 90,988; 4,210 mV is 6,408; a voltage at E0 is 0. -/
theorem test_reportedResistance_table :
    worked.reportedResistance pot188 38000 = 90988 ∧ worked.reportedResistance pot188 4210 = 6408 ∧
      worked.reportedResistance pot188 1650 = 0 := by
  decide +kernel

/-- The line with pot 188 reported: what the tick to 300,001 finds. -/
def quiet : State :=
  { worked with pots := { worked.pots with sumR := 1920000, sumV := 1260000 } }

/-- The tick to 300,001: V_line, P, the interval, band 2, and the governor. -/
theorem test_meteringTick_worked :
    let t := after (.meteringTick false) quiet
    t.meter.lineSeconds = 300001 ∧ t.meter.vLine = 1260631 ∧ t.meter.power = 503622 ∧
      t.meter.interval = ⟨36000, 900, 600, 360000000, 2, 560000⟩ ∧ t.meter.period.band 2 = ⟨1204517, 2722⟩ ∧
      t.meter.governor = ⟨.limiting, 567874, 560000, 38076⟩ ∧ t.meter.timeOfDay = 36600 ∧
      (t.attention.source 6).pending = true := by
  decide +kernel

/-- The dispatch cycle after that tick: the setpoint falls to 38,076 at once, governed by DEMAND. -/
theorem test_dispatchCycle_demand :
    let t := after (.dispatchCycle false)
      { quiet with
        quench := State.reset.quench
        current := { quiet.current with setpoint := 39983 }
        meter := { quiet.meter with governor := ⟨.limiting, 567874, 560000, 38076⟩ } }
    t.current.setpoint = 38076 ∧ t.current.governing = .demand ∧ demands t = [10879, 10879, 10879, 5439] := by
  decide +kernel

/-- The line one tick before the interval of the worked sequence closes, its last second's power still to come. -/
def closing : State :=
  { quiet with meter := { quiet.meter with timeOfDay := 36899, interval := ⟨36000, 900, 899, 503136378, 2, 560000⟩ } }

/-- The tick that brings elapsed to 900: demand 559,600, counted, a new maximum, and the next interval. -/
theorem test_intervalClose_worked :
    let t := after (.intervalClose false) closing
    t.meter.previous = ⟨559600, 900, 2, true⟩ ∧ t.meter.period.maximum = 559600 ∧ t.meter.period.maximumDay = 42 ∧
      t.meter.period.maximumTime = 36900 ∧ t.meter.period.counted = 319 ∧
      t.meter.interval = ⟨36900, 900, 0, 0, 2, 560000⟩ ∧ (t.attention.source 9).count = 1 := by
  decide +kernel

/-- The worked sequence's SET CLOCK after CLOSE PERIOD: a partial interval, the period closed, 600 seconds to come. -/
theorem test_setClock_worked :
    let s := { quiet with meter := { quiet.meter with
      timeOfDay := 37230, pendingClose := true, interval := ⟨36900, 900, 330, 158400000, 2, 560000⟩ } }
    let t := after (.setClock 37200 2) s
    t.meter.previous = ⟨480000, 330, 2, false⟩ ∧ t.meter.closed.figures.uncounted = 3 ∧ t.meter.closed.closeDay = 42 ∧
      t.meter.closed.closeTime = 37230 ∧ t.meter.period = PeriodFigures.empty ∧ t.meter.pendingClose = false ∧
      t.meter.interval = ⟨37200, 600, 0, 0, 2, 560000⟩ ∧ portStatus t = some .done := by
  decide +kernel

/-- R163's example: a working day finds band 2 and 560,000 at 36,000, day 5 the rest schedule's band 1 and 600,000. -/
theorem test_bandAt_schedules :
    worked.tariff.active.bandAt 36000 2 = 2 ∧ worked.tariff.active.limitOf 2 = 560000 ∧
      worked.tariff.active.bandAt 36000 5 = 1 ∧ worked.tariff.active.limitOf 1 = 600000 := by
  decide +kernel

/-- The day rolls over at 86,399: day 0, the next day of week and day count, and cleared daily counts. -/
theorem test_dayRollover_clears :
    let t := after (.dayRollover false) { worked with meter := { worked.meter with
      timeOfDay := 86399, dayOfWeek := 6, dayCount := 65535 } }
    t.meter.timeOfDay = 0 ∧ t.meter.dayOfWeek = 0 ∧ t.meter.dayCount = 0 ∧ (t.pot 188).aeCount = 0 ∧
      (t.pot 188).ae = .quenching := by
  decide +kernel

/-- A curtailment of one minute ends 60 seconds on; the tick to that second removes it. -/
theorem test_curtailment_ends :
    (after (.curtail 500000 1) worked).meter.curtailment = some ⟨500000, 300060⟩ ∧
      (after (.curtailmentExpiry false)
        { worked with meter := { worked.meter with curtailment := some ⟨500000, 300001⟩ } }).meter.curtailment = none ∧
      portStatus (after .cancelCurtail worked) = some .late := by
  decide +kernel

/-! ### Pot Register, Anode Effect Watch, Quench Permits and Pot Switching -/

/-- R10's example: the estimate is 4,246 mV, and the start hold end 240 × 60 seconds on. -/
theorem test_admitPot_estimate :
    let t := after (.admitPot 41 12 17 1) { worked with current := { worked.current with mode := .adopt } }
    (t.pot 41).voltage = 4246 ∧ (t.pot 41).resistance = 6500 ∧ (t.pot 41).startHoldEnd = some 314400 ∧
      t.pots.nIn = 301 ∧ t.ownerCount 17 = 1 ∧ portStatus t = some .done := by
  decide +kernel

theorem test_admitPot_refusals :
    portStatus (after (.admitPot 385 12 17 2) worked) = some .noRecord ∧
      portStatus (after (.admitPot 188 12 17 2) worked) = some .state ∧
      portStatus (after (.admitPot 41 0 17 2) worked) = some .param ∧
      portStatus (after (.admitPot 41 12 17 1) worked) = some .state := by
  decide +kernel

/-- Pot 41 as an OUT pot of node 23, added to the worked case. -/
def withOut (s : State) : State :=
  s.putPot 41 { PotRecord.empty with circuit := .outOfCircuit, tag := 12, owner := some 23, resistance := 6500 }

theorem test_retirePot_keepsTag :
    let t := after (.retirePot 41 12) (withOut worked)
    (t.pot 41) = { PotRecord.empty with tag := 12 } ∧ t.pots.nOut = 4 ∧ t.ownerCount 23 = 1 := by
  decide +kernel

theorem test_assignOwner_moves :
    let t := after (.assignOwner 188 30 17) worked
    (t.pot 188).owner = some 17 ∧ t.ownerCount 23 = 0 ∧ t.ownerCount 17 = 1 := by
  decide +kernel

theorem test_readPot_image :
    ((after (.readPot 188) worked).port.reply.map fun r => r.payload.take 10) =
      some [0x00, 0xBC, 0x02, 0x1E, 0x17, 0x92, 0xE5, 0x01, 0x5F, 0x90] := by
  decide +kernel

theorem test_readPotRange_frames :
    let t := after (.readPotRange 380 5) worked
    t.port.due = [] ∧ (t.port.reply.map fun r => (r.payload.length, r.continued)) = some (110, false) ∧
      (after (.readPotRange 1 23) worked).port.due.length = 2 ∧
      portStatus (after (.readPotRange 380 6) worked) = some .param := by
  decide +kernel

theorem test_potSilence_due :
    ((after (.potSilence 188) { worked with meter := { worked.meter with lineSeconds := 300010 } }).pot 188).silent = false ∧
      ((after (.potSilence 188) { worked with meter := { worked.meter with lineSeconds := 300011 } }).pot 188).silent
        = true := by
  decide +kernel

/-- Pot 188 WAITING at the head of the quench queue, with every slot FREE. -/
def waiting : State :=
  { worked with
    pots := { worked.pots with table := tput worked.pots.table 188 { pot188 with ae := .waiting, slot := none } }
    quench := { slots := Vector.replicate 4 none, queue := [188] } }

theorem test_escalation_grants :
    let t := after (.escalation 188) { waiting with meter := { waiting.meter with lineSeconds := 300080 } }
    (t.pot 188).aeClass = .escalated ∧ (t.pot 188).ae = .quenching ∧ t.slot 1 = some ⟨188, 300080⟩ ∧
      t.quench.queue = [] ∧ (t.attention.source 3).detail = 188 := by
  decide +kernel

theorem test_startHoldExpiry_atEnd :
    ((after (.startHoldExpiry 188)
      (worked.putPot 188 { pot188 with ae := .none, startHoldEnd := some 300000 })).pot 188).startHoldEnd = none ∧
      ((after (.startHoldExpiry 188)
        (worked.putPot 188 { pot188 with ae := .none, startHoldEnd := some 300001 })).pot 188).startHoldEnd
        = some 300001 := by
  decide +kernel

/-- R31: an examination taken late removes the hold, and a report before it is decided as unheld. -/
theorem test_startHold_runOut :
    let s := worked.putPot 188 { pot188 with ae := .none, slot := none, startStamp := none, startHoldEnd := some 299990 }
    ((after (.startHoldExpiry 188) s).pot 188).startHoldEnd = none ∧
      ((after (.potReport [⟨188, 30, 8000⟩]) (potTurn s)).pot 188).ae = .suspect := by
  decide +kernel

theorem test_quenchEnd_settles :
    let t := after (.quenchEnd 188 30) (potTurn worked)
    (t.pot 188).ae = .settling ∧ (t.pot 188).settleStamp = some 300000 ∧ t.slot 1 = none ∧ fieldStatus t = some .done ∧
      fieldStatus (after (.quenchEnd 188 31) (potTurn worked)) = some .stale := by
  decide +kernel

theorem test_permitExpiry_requeues :
    let t := after (.permitExpiry 1) { worked with meter := { worked.meter with lineSeconds := 300020 } }
    (t.pot 188).overruns = 1 ∧ (t.pot 188).ae = .quenching ∧ t.slot 1 = some ⟨188, 300020⟩ ∧
      (t.attention.source 4).count = 1 := by
  decide +kernel

theorem test_settleExpiry_escalates :
    let s := { worked with
      pots := (worked.pots.put 188 { pot188 with ae := .settling, slot := none, settleStamp := some 299970 })
      quench := State.reset.quench }
    let t := after (.settleExpiry 188) s
    (t.pot 188).aeClass = .escalated ∧ (t.pot 188).settleStamp = none ∧ (t.pot 188).ae = .quenching := by
  decide +kernel

theorem test_switchRequest_first :
    let t := after (.switchRequest 41 12 1) (potTurn (withOut worked))
    t.switching.queue = [41] ∧ (t.pot 41).switch = some ⟨.cutIn, .ramping, 300000⟩ ∧ t.current.setpoint = 30000 ∧
      t.current.governing = .switching ∧ (t.field.reply.map Reply.payload) = some [1, 2] := by
  decide +kernel

/-- Pot 41 at the head of the switch queue, its window open. -/
def openWindow : State :=
  State.withSwitchQueue
    ((withOut worked).putPot 41 { (withOut worked).pot 41 with switch := some ⟨.cutIn, .opened, 299000⟩ }) [41]

theorem test_switchDone_cutIn :
    let t := after (.switchDone 41 12) (potTurn openWindow)
    (t.pot 41).circuit = .inCircuit ∧ (t.pot 41).voltage = 4246 ∧ t.pots.nIn = 301 ∧ t.pots.nOut = 4 ∧
      t.switching.queue = [] ∧ (t.pot 41).lastSwitch = .completed ∧ (t.attention.source 12).detail = 41 := by
  decide +kernel

theorem test_switchCancel_ends :
    let t := after (.switchCancel 41 12) (potTurn openWindow)
    (t.pot 41).switch = none ∧ (t.pot 41).lastSwitch = .cancelled ∧ t.switching.queue = [] := by
  decide +kernel

theorem test_windowExpiry_due :
    let t := after .windowExpiry openWindow
    (t.pot 41).lastSwitch = .expired ∧ (t.attention.source 5).detail = 41 ∧
      (after .rampFailure openWindow).switching.queue = [41] := by
  decide +kernel

theorem test_dispatchCycle_opensWindow :
    let s := (openWindow.putPot 41 { openWindow.pot 41 with switch := some ⟨.cutIn, .ramping, 299999⟩ })
    ((after (.dispatchCycle true) s).pot 41).switch = some ⟨.cutIn, .ramping, 299999⟩ ∧
      ((after (.dispatchCycle true) { s with current := { s.current with
        params := { s.current.params with iCeiling := 39950 } } }).pot 41).switch = some ⟨.cutIn, .opened, 300000⟩ := by
  decide +kernel

theorem test_rampFailure_due :
    let s := (openWindow.putPot 41 { openWindow.pot 41 with switch := some ⟨.cutIn, .ramping, 299700⟩ })
    ((after .rampFailure s).pot 41).lastSwitch = .rampFailed := by
  decide +kernel

/-! ### Rectifier Units and the line -/

/-- Chapter 5's worked report of unit 4: capacity 4,800, I_cap 40,800, and the split 11,757, 11,757, 11,757, 4,702. -/
theorem test_unitReport_derates :
    let t := after (.unitReport 4 5700 540 true true)
      (unitTurn { worked with current := { worked.current with setpoint := 39973 } })
    (t.unit 4).capacity = 4800 ∧ t.iCap = 40800 ∧ t.current.setpoint = 39973 ∧
      demands t = [11757, 11757, 11757, 4702] ∧ (t.attention.source 11).pending = false ∧
      (t.field.reply.map Reply.payload) = some [2, 1, 0x12, 0x5E] := by
  decide +kernel

/-- A report at T_trip trips the unit: command TRIP, demand 0, and I_cap 36,000. -/
theorem test_unitReport_trips :
    let t := after (.unitReport 4 5700 600 true true) (unitTurn worked)
    (t.unit 4).state = .tripping ∧ (t.unit 4).tripCause = .temperature ∧ t.iCap = 36000 ∧ t.current.setpoint = 36000 ∧
      demands t = [12000, 12000, 12000, 0] ∧ (t.attention.source 1).detail = 4 := by
  decide +kernel

theorem test_flowGrace_and_silence :
    let s := worked.putUnit 4 { worked.unit 4 with flowLossStamp := some 299970, flowOk := false }
    ((after (.flowGraceExpiry 4) s).unit 4).tripCause = .flow ∧
      ((after (.unitSilence 4) { worked with meter := { worked.meter with lineSeconds := 300005 } }).unit 4).frozen = true ∧
      ((after (.unitLoss 4) { worked with meter := { worked.meter with lineSeconds := 300020 } }).unit 4).state = .lost := by
  decide +kernel

theorem test_unit_requests :
    ((after (.defineUnit 5 9 12000 1250000 450 600) worked).unit 5).state = .idle ∧
      portStatus (after (.defineUnit 5 8 12000 1250000 450 600) worked) = some .busy ∧
      ((after (.tripUnit 4) worked).unit 4).tripCause = .lineMaster ∧
      ((after (.restoreUnit 4) (worked.putUnit 4 { worked.unit 4 with
        state := .locked, temperature := 449, tripCause := .flow })).unit 4).state = .idle ∧
      (after (.removeUnit 4) (worked.putUnit 4 { worked.unit 4 with state := .lost })).unit 4 = UnitRecord.empty ∧
      portStatus (after (.removeUnit 4) worked) = some .state := by
  decide +kernel

/-- READ UNIT of unit 4: number, SERVING, node, rated 12,000, V_max 1,400,000. -/
theorem test_readUnit_image :
    ((after (.readUnit 4) worked).port.reply.map fun r => r.payload.take 9) =
      some [0x04, 0x02, 0x08, 0x2E, 0xE0, 0x00, 0x15, 0x5C, 0xC0] := by
  decide +kernel

theorem test_line_mode_requests :
    (after .run { worked with current := { worked.current with mode := .adopt, setpoint := 0 } }).current.setpoint = 39950 ∧
      (after .hold worked).current.mode = .hold ∧ portStatus (after .hold openWindow) = some .busy ∧
      portStatus (after .resume worked) = some .state ∧ (after (.setTarget 0) worked).current.target = 0 ∧
      (after (.setTarget 0) worked).current.setpoint = 39963 := by
  decide +kernel

/-- R129's pair: V_AE to 6,000 with V_AE_end at 6,000 gives PARAM; V_AE_end to 5,500 passes. -/
theorem test_setParam_cross :
    portStatus (after (.setParam 11 6000) worked) = some .param ∧
      (after (.setParam 12 5500) worked).current.params.vAeEnd = 5500 ∧
      ((after (.readParam 24) worked).port.reply.map Reply.payload) = some [0x00, 0x06, 0x1A, 0x80] := by
  decide +kernel

theorem test_read_lengths :
    let length := fun c => (after c worked).port.reply.map fun r => r.payload.length
    length .readLine = some 67 ∧ length .readMeter = some 69 ∧ length .readPeriod = some 83 ∧
      length .readNodes = some 8 := by
  decide +kernel

/-! ### Tariff Table and Attention -/

/-- A load of three sections, the last of them final: staged, not yet active. -/
theorem test_loadTariff_stages :
    let a := after .lmReplyEnd (after (.loadTariff (.header ⟨900, 2, 600000, 560000, 0, 0, 96⟩) false) worked)
    let b := after .lmReplyEnd (after (.loadTariff (.working [⟨0, 1⟩, ⟨25200, 2⟩]) false) a)
    let c := after (.loadTariff (.rest [⟨0, 1⟩]) true) b
    c.tariff.staged = some ⟨900, 2, [600000, 560000], 96, [⟨0, 1⟩, ⟨25200, 2⟩], [⟨0, 1⟩]⟩ ∧ c.tariff.load = none ∧
      c.tariff.active = worked.tariff.active := by
  decide +kernel

/-- A length that is none of the eighteen: PARAM, and the bad item HEADER 1. -/
theorem test_loadTariff_badItem :
    ((after (.loadTariff (.header ⟨901, 2, 0, 0, 0, 0, 0⟩) true) worked).port.reply.map fun r => (r.status, r.payload)) =
      some (.param, [1, 1, 0]) := by
  decide +kernel

theorem test_lockTariff_protects :
    let t := after .lmReplyEnd (after .lockTariff worked)
    t.tariff.locked = true ∧
      portStatus (after (.loadTariff (.header ⟨900, 1, 1, 0, 0, 0, 0⟩) false) t) = some .protect ∧
      portStatus (after (.readTariff 2) t) = some .noRecord ∧
      ((after (.readTariff 1) t).port.reply.map fun r => r.payload.take 5) = some [1, 0, 0x03, 0x84, 2] := by
  decide +kernel

/-- Two confirmations on one source: R173's example, and the acknowledgement with count 2. -/
theorem test_attention_handshake :
    let s := (worked.raise .aeConfirmed 57).raise .aeConfirmed 212
    s.attention.source 10 = ⟨true, 2, 57⟩ ∧ s.attention.attn = true ∧
      portStatus (after (.ackAttention 10 1) s) = some .late ∧
      (after (.ackAttention 10 2) s).attention.attn = false ∧
      ((after .getAttention s).port.reply.map Reply.payload) = some [10, 2, 0, 57, 2, 0, 0x0F, 0xFF] ∧
      (after (.setAttentionMask 0xDFF) s).attention.attn = false ∧
      portStatus (after (.setAttentionMask 0x1000) s) = some .param := by
  decide +kernel

/-! ### The links -/

theorem test_turn_and_miss :
    (after .turn worked).field.turn = some ⟨23, .potNode, true, .await⟩ ∧
      (after .miss (unitTurn worked)).field.ring[1]? = some ⟨8, .unitNode, .active, 2, 0⟩ ∧
      (after .miss (unitTurn worked)).field.walk = some 0 ∧
      (after .pass (unitTurn worked)).field.ring[1]? = some ⟨8, .unitNode, .active, 0, 0⟩ ∧
      fieldStatus (after .pass (unitTurn worked)) = some .done ∧
      (after .fieldFrameGap (potTurn worked)).field.turn = none := by
  decide +kernel

theorem test_fieldFrameRefused_answers :
    ((after (.fieldFrameRefused (fieldFrame [0x00])) (potTurn worked)).field.reply) = some ⟨.form, .none, [], false⟩ ∧
      ((after (.unitReport 4 0 0 true true) (potTurn worked)).field.reply) = some ⟨.unknown, .none, [], false⟩ := by
  decide +kernel

/-- R180, R184: the turn character has mark 1 and the reply's characters mark 0; when the reply has been sent, FLDE is
negated and READ NODES shows no turn. -/
theorem test_field_characters :
    let t := after .turn worked
    let r := after .pass t
    t.field.sent = [⟨true, 23⟩] ∧
      r.field.sent = ⟨true, 23⟩ :: fieldFrame [0xC3, 0x02, 0x00, 0x01, 0xFD, 0x3C] ∧ r.field.flde = true ∧
      r.replyEnded.field.flde = false ∧ r.replyEnded.field.walk = some 1 ∧
      ((after .readNodes r.replyEnded).port.reply.map fun x => x.payload.take 2) = some [2, 0] := by
  decide +kernel

theorem test_ring_requests :
    (after (.addNode 9 1) worked).field.ring.length = 3 ∧ portStatus (after (.addNode 8 1) worked) = some .busy ∧
      (after (.dropNode 23) worked).field.ring = [⟨8, .unitNode, .active, 1, 0⟩] ∧
      portStatus (after (.dropNode 9) worked) = some .noRecord := by
  decide +kernel

/-- A line where every node is ABSENT: the pass gives no turn, and the idle time begins the next. -/
def absentRing : State :=
  { worked with field := { worked.field with ring := [⟨23, .potNode, .absent, 3, 13⟩, ⟨8, .unitNode, .absent, 3, 4⟩] } }

theorem test_walk_rests :
    (after .turn absentRing).field.idle = true ∧
      (after .turn absentRing).field.ring = [⟨23, .potNode, .absent, 3, 14⟩, ⟨8, .unitNode, .absent, 3, 5⟩] ∧
      (after .idleTime (after .idleTime (after .turn absentRing))).field.walk = some 0 ∧
      (after .turn (after .idleTime (after .idleTime (after .turn absentRing)))).field.turn =
        some ⟨23, .potNode, true, .await⟩ := by
  decide +kernel

theorem test_port_events :
    (after .lmBreak (after (.readPotRange 1 23) worked)).port.due = [] ∧
      portStatus (after .run (after .lmBreak worked)) = none ∧
      (after .lmrxIdleReturn (after .lmBreak worked)).port.waitIdle = false ∧
      (after .rangeFrameNext (after (.readPotRange 1 23) worked)).port.due.length = 1 ∧
      (after .lmReplyEnd (after (.setParam 26 19200) worked)).port.speed = 19200 ∧
      (after (.lmFrameRefused (portFrame [0x00])) worked).port.reply = some ⟨.form, .none, [], false⟩ ∧
      after .lmFrameGap worked = worked := by
  decide +kernel

theorem test_reset_keepsQueue :
    after .reset { worked with pending := [.turn] } = { State.reset with pending := [.turn] } := by
  decide +kernel

theorem test_step_takesFront :
    step { worked with pending := [.hold, .turn] } = exec .hold { worked with pending := [.turn] } := by
  rfl

/-! ### Witnesses: states and operands that meet the hypotheses of the statements

A statement without hypotheses, or whose cases cover every value, has none here. -/

/-- A sound line in RUN: pot 57 WAITING at the head of the quench queue, pot 41 RAMPING at the head of the switch queue,
unit 1 SERVING, unit 2 SERVING and silent, one source pending, and a turn of node 23. -/
def sound : State :=
  { State.reset with
    pots :=
      (State.reset.pots.put 57
        { PotRecord.empty with
          circuit := .inCircuit, tag := 30, owner := some 23, voltage := 9000, resistance := 18375, ae := .waiting
          startStamp := some 4 }).put 41
        { PotRecord.empty with
          circuit := .outOfCircuit, tag := 12, owner := some 23, resistance := 6500, switch := some ⟨.cutIn, .ramping, 5⟩ }
    quench := { State.reset.quench with queue := [57] }
    switching := ⟨[41]⟩
    units :=
      tput (tput (Vector.replicate 8 UnitRecord.empty) 1
        { UnitRecord.empty with
          state := .serving, node := 8, rated := 12000, vMax := 1400000, tDerate := 450, tTrip := 600, measured := 9000
          temperature := 410, breakerClosed := true, capacity := 12000, demand := 9000 }) 2
        { UnitRecord.empty with
          state := .serving, node := 9, rated := 12000, vMax := 1400000, tDerate := 450, tTrip := 600, measured := 5000
          temperature := 410, breakerClosed := true, capacity := 12000, demand := 5000, silent := true, frozen := true }
    current := { State.reset.current with mode := .run, target := 40000, setpoint := 14000, governing := .ramp }
    meter :=
      { State.reset.meter with
        lineSeconds := 7, timeOfDay := 7, interval := { State.reset.meter.interval with elapsed := 7, energy := 30 } }
    attention := State.reset.attention.put 10 ⟨true, 2, 57⟩
    field :=
      { State.reset.field with
        ring := [⟨23, .potNode, .active, 0, 0⟩, ⟨8, .unitNode, .absent, 3, 15⟩], walk := some 0
        turn := some ⟨23, .potNode, true, .await⟩ }
    pending := [.dispatchCycle true] }

/-- Numbers from 1 to a bound, one by one. -/
theorem each_of_range' {n : Nat} {P : Nat → Prop} (h : ∀ a ∈ List.range' 1 n, P a) (a : Nat) (low : 1 ≤ a) (high : a ≤ n) :
    P a :=
  h a (by simp [List.mem_range']; exact ⟨a - 1, by omega, by omega⟩)

theorem witness_step_of_sound : ∃ t, step sound = .next t :=
  ⟨_, rfl⟩

theorem witness_LineSumsAgreeWithTable : sound.pots.Sound := by
  have owned : ∀ a ∈ List.range' 1 62,
      tget 0 sound.pots.ownerCounts a = sound.pots.table.toList.countP (fun r => r.countedOwner == some a) := by
    decide +kernel
  have few : ∀ a ∈ List.range' 1 62, tget 0 sound.pots.ownerCounts a ≤ 8 := by decide +kernel
  refine ⟨by decide +kernel, by decide +kernel, by decide +kernel, by decide +kernel, each_of_range' owned, fun a => ?_,
    by decide +kernel, ?_⟩
  · by_cases inside : 1 ≤ a ∧ a ≤ 62
    · exact each_of_range' few a inside.1 inside.2
    · rw [tget_outside _ _ _ (by omega)]; omega
  · have known : ∀ r ∈ sound.pots.table.toList,
        r.circuit = .vacant ∨ (r.owner.isSome = true ∧ isNode (r.owner.getD 0) = true) := by decide +kernel
    intro r member defined
    rcases known r member with h | ⟨h, g⟩
    · exact absurd h defined
    · obtain ⟨a, e⟩ := Option.isSome_iff_exists.mp h
      exact ⟨a, e, by simpa [e, isNode] using g⟩

theorem witness_AttnFollowsPendingSources : sound.attention.Sound := by
  have clear : ∀ c, ¬(1 ≤ c ∧ c ≤ 12) → sound.attention.source c = SourceRecord.clear := fun c out =>
    tget_outside _ _ _ (by omega)
  have counted : ∀ c ∈ List.range' 1 12, (sound.attention.source c).pending = true →
      1 ≤ (sound.attention.source c).count ∧ (sound.attention.source c).count ≤ 255 := by decide +kernel
  have empty : ∀ c ∈ List.range' 1 12, (sound.attention.source c).pending = false →
      (sound.attention.source c).count = 0 ∧ (sound.attention.source c).detail = 0 := by decide +kernel
  refine ⟨⟨fun _ => ⟨10, by decide +kernel⟩, fun _ => by decide +kernel⟩, fun c => ?_, fun c => ?_, by decide +kernel⟩
  · by_cases inside : 1 ≤ c ∧ c ≤ 12
    · exact each_of_range' counted c inside.1 inside.2
    · simp [clear c inside, SourceRecord.clear]
  · by_cases inside : 1 ≤ c ∧ c ≤ 12
    · exact each_of_range' empty c inside.1 inside.2
    · simp [clear c inside, SourceRecord.clear]

/-- The records of the sound line. -/
theorem sound_pots_other (p : Nat) (h : p ≠ 57) (g : p ≠ 41) : sound.pot p = PotRecord.empty := by
  have e : sound.pots.table = tput (tput (Vector.replicate 384 PotRecord.empty) 57 (sound.pot 57)) 41 (sound.pot 41) := by
    decide +kernel
  rw [State.pot, e, tget_tput_other _ _ _ _ _ g, tget_tput_other _ _ _ _ _ h]
  cases p with
  | zero => rfl
  | succ p => simp only [tget]; by_cases inside : p < 384 <;> simp [inside]

theorem witness_QueuesAndSlotsMatchRecords : sound.QueuesSound := by
  have record57 : sound.pot 57 = { PotRecord.empty with
      circuit := .inCircuit, tag := 30, owner := some 23, voltage := 9000, resistance := 18375, ae := .waiting
      startStamp := some 4 } := by decide +kernel
  have record41 : sound.pot 41 = { PotRecord.empty with
      circuit := .outOfCircuit, tag := 12, owner := some 23, resistance := 6500
      switch := some ⟨.cutIn, .ramping, 5⟩ } := by decide +kernel
  have slots : ∀ k, sound.slot k = none := by
    intro k
    by_cases inside : 1 ≤ k ∧ k ≤ 4
    · exact each_of_range' (P := fun k => sound.slot k = none) (by decide +kernel) k inside.1 inside.2
    · exact tget_outside _ _ _ (by omega)
  constructor
  · intro p _
    by_cases h : p = 57
    · subst h; constructor <;> simp [record57, PotRecord.empty]
    · by_cases g : p = 41
      · subst g; constructor <;> simp [record41, PotRecord.empty]
      · constructor <;> simp [sound_pots_other p h g, PotRecord.empty]
  · decide
  · intro p
    by_cases h : p = 57
    · subst h; simp [record57]; decide
    · have : p ∉ sound.quench.queue := by simp [sound]; exact h
      by_cases g : p = 41
      · subst g; simp [record41, this, PotRecord.empty]
      · simp [sound_pots_other p h g, this, PotRecord.empty]
  · intro k held h; simp [slots] at h
  · intro p k _ h
    by_cases e : p = 57
    · subst e; simp [record57, PotRecord.empty] at h
    · by_cases g : p = 41
      · subst g; simp [record41, PotRecord.empty] at h
      · simp [sound_pots_other p e g, PotRecord.empty] at h
  · decide
  · intro p
    by_cases g : p = 41
    · subst g; simp [record41]; decide
    · have : p ∉ sound.switching.queue := by simp [sound]; exact g
      by_cases h : p = 57
      · subst h; simp [record57, this, PotRecord.empty]
      · simp [sound_pots_other p h g, this, PotRecord.empty]
  · decide
  · intro p rest w h g
    obtain ⟨rfl, rfl⟩ : p = 41 ∧ rest = [] := by simpa [sound, eq_comm] using h
    simp [record41] at g; simp [← g]
  · intro p rest q w h member
    obtain ⟨rfl, rfl⟩ : p = 41 ∧ rest = [] := by simpa [sound, eq_comm] using h
    simp at member
  · intro _; rfl

theorem witness_UnitRecordsStaySound : sound.UnitsSound := by
  have inRange : ∀ u ∈ List.range' 1 8, (sound.unit u).state ≠ .absent → u = 1 ∨ u = 2 := by decide +kernel
  have empty : ∀ u ∈ List.range' 1 8, u = 1 ∨ u = 2 ∨ sound.unit u = UnitRecord.empty := by decide +kernel
  have record1 : sound.unit 1 = { UnitRecord.empty with
      state := .serving, node := 8, rated := 12000, vMax := 1400000, tDerate := 450, tTrip := 600, measured := 9000
      temperature := 410, breakerClosed := true, capacity := 12000, demand := 9000 } := by decide +kernel
  have record2 : sound.unit 2 = { UnitRecord.empty with
      state := .serving, node := 9, rated := 12000, vMax := 1400000, tDerate := 450, tTrip := 600, measured := 5000
      temperature := 410, breakerClosed := true, capacity := 12000, demand := 5000, silent := true
      frozen := true } := by decide +kernel
  refine ⟨fun u known => ?_, fun u v ku kv du dv same => ?_⟩
  · have bounds := (isUnit_iff u).mp known
    rcases each_of_range' empty u bounds.1 bounds.2 with h | h | h
    · subst h; constructor <;> simp [record1, UnitRecord.empty, UnitRecord.serving, topNode]
    · subst h; constructor <;> simp [record2, UnitRecord.empty, UnitRecord.serving, topNode]
    · constructor <;> simp [h, UnitRecord.empty, UnitRecord.serving]
  · have bu := (isUnit_iff u).mp ku
    have bv := (isUnit_iff v).mp kv
    rcases each_of_range' inRange u bu.1 bu.2 du with h | h <;> rcases each_of_range' inRange v bv.1 bv.2 dv with g | g <;>
      subst h <;> subst g <;> simp_all

theorem witness_SetpointAndDemandsStaySound : sound.DispatchSound :=
  ⟨fun _ => by decide +kernel, fun _ _ => by decide +kernel, fun _ => by decide +kernel, fun _ => by decide +kernel,
    fun _ _ => by decide +kernel⟩

theorem witness_QuenchQueueStaysOrdered :
    sound.QueueOrdered ∧ sound.meter.lineSeconds < 4294967296 ∧
      ∀ p ∈ sound.quench.queue, ∀ stamp, (sound.pot p).startStamp = some stamp →
        stamp < 4294967296 ∧ sound.startAge p < 4294967295 := by
  refine ⟨List.pairwise_singleton _ _, by decide, fun p member stamp h => ?_⟩
  obtain rfl : p = 57 := by simpa [sound] using member
  have e : (sound.pot 57).startStamp = some 4 ∧ sound.startAge 57 = 3 := by decide +kernel
  rw [e.1] at h; cases h; rw [e.2]; omega

theorem witness_IntervalStaysOnTheGrid : sound.MeterSound := by
  have bands : ∀ b, sound.meter.period.band b = ⟨0, 0⟩ ∧ sound.meter.closed.figures.band b = ⟨0, 0⟩ := by
    intro b
    by_cases inside : 1 ≤ b ∧ b ≤ 4
    · exact each_of_range' (P := fun b => sound.meter.period.band b = ⟨0, 0⟩ ∧ sound.meter.closed.figures.band b = ⟨0, 0⟩)
        (by decide +kernel) b inside.1 inside.2
    · exact ⟨tget_outside _ _ _ (by omega), tget_outside _ _ _ (by omega)⟩
  constructor
  · refine ⟨by decide, by decide, by decide, by decide, ?_, ?_⟩ <;>
      exact ⟨by decide, fun c rest h => by simp [sound, State.reset, TariffTable.atReset] at h; simp [← h.1], by decide,
        by decide, by decide⟩
  · intro t h; simp [sound, State.reset] at h
  · decide
  · decide
  · decide
  · decide
  · decide
  · decide
  · decide
  · decide +kernel
  · decide +kernel
  · intro b; simp [bands b]
  · intro b; simp [bands b]
  · intro _; rfl
  · decide

theorem witness_LinksStaySound : sound.field.Sound ∧ sound.port.Sound := by
  refine ⟨?_, fun h => absurd rfl h⟩
  constructor
  · decide
  · intro e member
    simp only [sound, List.mem_cons, List.not_mem_nil, or_false] at member
    rcases member with rfl | rfl <;> constructor <;> simp [topNode]
  · decide
  · simp [sound]
  · intro k h; simp [sound] at h; subst h; decide
  · intro t h _
    simp [sound] at h
    exact ⟨0, _, rfl, rfl, by rw [← h], by rw [← h]⟩
  · constructor
    · intro h; simp [sound, State.reset] at h
    · rintro ⟨t, h, g⟩; simp [sound] at h; rw [← h] at g; cases g
  · intro h; simp [sound, State.reset] at h

/-- A command in front; an empty queue with a reply being sent, and with none. -/
theorem witness_StepRunsFrontCommand :
    sound.pending = .dispatchCycle true :: [] ∧ (worked.pending = [] ∧ worked.field.reply = none) ∧
      (let s := after .pass (potTurn worked)
      s.pending = [] ∧ s.field.reply ≠ none ∧ s.field.turn ≠ none) := by
  decide +kernel

/-- Admit, retire, assign, unit, node, parameter, tariff, clock, curtailment, attention and read requests share this one. -/
theorem witness_port_takes : sound.port.takes = true ∧ worked.port.takes = true := by decide

theorem witness_RangeReplyCapturesImages :
    worked.port.takes = true ∧ (1 ≤ 384 ∧ 384 ≤ 384 ∧ 1 ≤ 1 ∧ 384 + 1 ≤ 385) ∧ 385 < 384 + 2 ∧ (0 < 1 ∨ 384 < 0) := by
  decide

theorem witness_PotReportTakesItemsInOrder :
    Window (potTurn worked) ⟨23, .potNode, true, .await⟩ .potNode ∧ [ReportItem.mk 188 30 4207] ≠ [] := by
  exact ⟨⟨rfl, rfl⟩, by decide⟩

/-- Pot 1 and pot 384 are positions: the boundary values of every statement over positions. -/
theorem witness_AcceptedReportStoresVoltageAndR :
    (1 ≤ 188 ∧ 188 ≤ 384) ∧ (worked.pot 188).circuit = .inCircuit ∧ (worked.pot 1).circuit ≠ .inCircuit ∧
      (worked.pot 384).circuit ≠ .inCircuit := by
  decide +kernel

/-- An OUT pot reports: voltage and stamp only (R15). -/
theorem test_potReport_outPot :
    let s := withOut worked
    s.acceptReport 41 3 = s.putPot 41 { s.pot 41 with voltage := 3, reportStamp := 300000 } := by
  decide +kernel

/-- Pot 188 of the worked case with other watch fields. -/
def watched (ae : AeState) (hold : Option Nat) : State :=
  worked.putPot 188 { pot188 with ae := ae, startHoldEnd := hold, slot := none, startStamp := some 299999 }

/-- Each clause of the watch: V_AE is 8,000, V_AE_end 6,000, T_confirm 2, and the start stamp one second old. -/
theorem witness_WatchDecidesReport :
    ({ worked with current := { worked.current with mode := .adopt } } : State).current.mode = .adopt ∧
    worked.current.mode ≠ .adopt ∧ worked.params.vAe = 8000 ∧ worked.params.vAeEnd = 6000 ∧
    (((watched .none (some 300001)).pot 188).ae = .none ∧ held ((watched .none (some 300001)).pot 188) worked.now = true) ∧
    (((watched .none none).pot 188).ae = .none ∧ held ((watched .none none).pot 188) worked.now = false) ∧
    held ((watched .none (some 300000)).pot 188) worked.now = false ∧
    held ((watched .none (some 386400)).pot 188) worked.now = true ∧
    (((watched .suspect none).pot 188).ae = .suspect ∧ (watched .suspect none).startAge 188 < 2) ∧
    (((watched .waiting none).pot 188).ae = .waiting ∧ ((watched .waiting none).pot 188).circuit = .inCircuit) := by
  decide +kernel

theorem witness_ConfirmationQueuesPot :
    let s := worked.putPot 188 { pot188 with ae := .suspect, slot := none, startStamp := some 299998 }
    (s.pot 188).circuit = .inCircuit ∧ s.current.mode ≠ .adopt ∧ (s.pot 188).ae = .suspect ∧ s.params.vAe ≤ 8000 ∧
      s.params.tConfirm ≤ s.startAge 188 ∧ s.quench.queue.Nodup ∧ 188 ∉ s.quench.queue ∧ s.switching.queue.Nodup := by
  decide +kernel

theorem witness_EffectEndsBelowThreshold :
    (worked.pot 188).circuit = .inCircuit ∧ worked.current.mode ≠ .adopt ∧ (worked.pot 188).ae = .quenching ∧
      5999 < worked.params.vAeEnd ∧ worked.quench.queue.Nodup ∧
      (188 ∈ worked.quench.queue ↔ (worked.pot 188).ae = .waiting) ∧
      ((worked.pot 188).slot ≠ none ↔ (worked.pot 188).ae = .quenching) ∧
      ((worked.pot 188).settleStamp ≠ none ↔ (worked.pot 188).ae = .settling) ∧
      (∀ k ∈ [1, 2, 3, 4], ((worked.slot k).map HeldSlot.position = some 188 ↔ (worked.pot 188).slot = some k)) ∧
      (worked.pot 188).slot = some 1 := by
  decide +kernel

theorem witness_TimersExamineOneRecord :
    (let s := worked.putPot 188 { pot188 with ae := .settling, slot := none, settleStamp := some 299970 }
    (s.pot 188).ae = .settling ∧ (s.pot 188).settleStamp = some 299970) ∧ (worked.pot 188).ae ≠ .settling ∧
      worked.slot 1 = some ⟨188, 299900⟩ ∧ worked.slot 4 = none := by
  decide +kernel

theorem witness_PlacementKeepsQueueOrder :
    let s := waiting.putPot 2 { pot188 with ae := .waiting, slot := none, startStamp := some 299950, aeClass := .escalated }
    2 ∉ s.quench.queue ∧ ∀ ahead : Nat → Nat → Prop, s.quench.queue.Pairwise ahead :=
  ⟨by decide +kernel, fun _ => List.pairwise_singleton _ _⟩

/-- The head granted, and a line whose grant evaluation grants nothing. -/
theorem witness_GrantEvaluationServesTheHead :
    waiting.quench.queue = 188 :: [] ∧ 188 ∉ ([] : List Nat) ∧ waiting.slot 1 = none ∧
      (∀ j ∈ [1, 2, 3, 4], j < 1 → waiting.slot j ≠ none) ∧ waiting.heldSlots = 0 ∧ worked.quench.queue = [] := by
  decide +kernel

/-- The field requests of a pot controller, and UNIT REPORT, are stated at a response window that runs. -/
theorem witness_Window :
    Window (potTurn worked) ⟨23, .potNode, true, .await⟩ .potNode ∧
      Window (unitTurn worked) ⟨8, .unitNode, true, .await⟩ .unitNode :=
  ⟨⟨rfl, rfl⟩, ⟨rfl, rfl⟩⟩

/-- The three cases of R65: behind the head, the head with another behind it, and alone. -/
theorem witness_SwitchQueueAdvances :
    ([41, 188] : List Nat).Nodup ∧ (∀ q ∈ [41, 188], 1 ≤ q ∧ q ≤ 384) ∧ openWindow.switching.queue = [41] ∧
      (openWindow.withSwitchQueue [41, 188]).switching.queue = 41 :: 188 :: [] ∧ 41 ≠ 188 := by
  decide +kernel

theorem witness_SwitchOperationsEnd :
    openWindow.switching.queue = 41 :: [] ∧ (openWindow.pot 41).switch = some ⟨.cutIn, .opened, 299000⟩ ∧
      worked.switching.queue = [] := by
  decide +kernel

theorem witness_UnitReportMovesState :
    (1 ≤ 4 ∧ 4 ≤ 8) ∧ (worked.unit 4).state ≠ .absent ∧ (worked.unit 4).tDerate < (worked.unit 4).tTrip := by
  decide +kernel

theorem witness_ChainLimitNamesFirstEqual :
    (worked.meter.governor.state = .off → worked.meter.governor.iDlim = 65535) ∧
      ({ worked with meter := { worked.meter with governor := ⟨.limiting, 567874, 560000, 38076⟩ } } :
        State).meter.governor.state = .limiting := by
  decide +kernel

/-- A dispatch cycle whose grant evaluation grants (the line of witness_GrantEvaluationServesTheHead), and one where the
test of R49 fails: slot 1 HELD, slot 2 FREE, and the test current 41,642 below I_floor. -/
theorem witness_EvaluationMovesSetpoint_grant :
    ((after (.dispatchCycle true) waiting).pot 188).ae = .quenching ∧
      ((after (.dispatchCycle false) waiting).pot 188).slot = some 1 ∧
      (let s := { worked with current := { worked.current with params := { worked.current.params with iFloor := 41643 } } }
      s.heldSlots ≠ 0 ∧ s.slot 2 = none ∧ vlim s (s.heldSlots + 1) < s.params.iFloor) := by
  decide +kernel

theorem witness_EvaluationMovesSetpoint :
    worked.quench.queue = [] ∧ worked.current.mode = .run ∧ (after .hold worked).current.mode = .hold ∧
      State.reset.current.mode = .adopt := by
  decide +kernel

theorem witness_SplitAddsUpToSetpoint :
    sound.current.mode ≠ .adopt ∧ sound.frozenSum = 5000 ∧ (sound.unit 1).eligible = true ∧ sound.capacitySum ≠ 0 ∧
      (sound.unit 2).eligible = false := by
  decide +kernel

theorem witness_CycleOrderDoesNotMatter : sound.current.mode = .run ∧ sound.frozenSum ≤ sound.current.setpoint := by
  decide +kernel

theorem witness_ParametersAreStoredAndRead :
    paramAllowed worked 11 30000 ∧ ¬paramAllowed worked 11 6499 ∧ paramAllowed worked 20 6 ∧ ¬paramAllowed worked 27 0 ∧
      paramAllowed worked 25 19200 := by
  have e : worked.params.vAeEnd = 6000 ∧ worked.params.tUnitSilent = 5 ∧ worked.params.vAe = 8000 := by decide
  simp [paramAllowed, paramBounds, e]

theorem witness_ticks :
    worked.meter.interval.elapsed + 1 < worked.meter.interval.planned ∧
      closing.meter.interval.elapsed + 1 = closing.meter.interval.planned ∧ worked.meter.timeOfDay + 1 < 86400 ∧
      86400 ≤ ({ worked with meter := { worked.meter with timeOfDay := 86399 } } : State).meter.timeOfDay + 1 := by
  decide +kernel

/-- The last change point whose second is at most the time, at the second of a point and one before it, on a working day
and on a rest day. -/
theorem witness_inForce :
    let table := worked.tariff.active
    table.restMask.testBit 2 = false ∧ table.working = [⟨0, 1⟩] ++ ⟨25200, 2⟩ :: [⟨79200, 1⟩] ∧
      (∀ x ∈ [ChangePoint.mk 79200 1], 25200 < x.second) ∧ table.working = [] ++ ⟨0, 1⟩ :: [⟨25200, 2⟩, ⟨79200, 1⟩] ∧
      (∀ x ∈ [ChangePoint.mk 25200 2, ⟨79200, 1⟩], 25199 < x.second) ∧ table.restMask.testBit 5 = true ∧
      table.rest = [] ++ ⟨0, 1⟩ :: [] ∧ table.limits[1]? = some 560000 := by
  decide +kernel

theorem witness_SetClockClosesPartialInterval :
    (86399 < 86400 ∨ 6 < 0) ∧ (86399 < 0 ∨ 6 < 7) ∧ (86399 ≤ 86399 ∧ 6 ≤ 6) := by
  decide

/-- A staged table of an hour, at a boundary of both lengths and at one of only the active table. -/
theorem witness_IntervalCloseRecordsDemand :
    let table := builtTable ⟨3600, 1, 1, 0, 0, 0, 0⟩ [⟨0, 1⟩] [⟨0, 1⟩]
    ({ closing with tariff := { closing.tariff with staged := some table } } : State).tariff.staged = some table ∧
      (36000 % closing.tariff.active.length = 0 ∧ 36000 % table.length = 0) ∧
      ¬(36900 % closing.tariff.active.length = 0 ∧ 36900 % table.length = 0) := by
  decide +kernel

theorem witness_CurtailmentAndPeriodRequests :
    worked.meter.curtailment.map Curtailment.endStamp ≠ some ((worked.meter.lineSeconds + 1) % 4294967296) ∧
      (after (.curtail 0 1) { worked with meter := { worked.meter with lineSeconds := 5 } }).meter.curtailment.map
        Curtailment.endStamp = some ((64 + 1) % 4294967296) := by
  decide +kernel

theorem witness_RaisingCountsOccurrences :
    (worked.attention.source 10).pending = false ∧ (sound.attention.source 10) = ⟨true, 2, 57⟩ ∧
      (sound.attention.put 10 ⟨true, 255, 57⟩).source 10 = ⟨true, 255, 57⟩ := by
  decide +kernel

theorem witness_MaskAndGetAttention : sound.port.takes = true ∧ 4096 ≤ 4096 ∧ 4095 < 4096 := by decide

theorem witness_NodesJoinAndLeaveRing :
    (63 < 1 ∨ 62 < 63) ∧ (∀ e ∈ worked.field.ring, e.address ≠ 62) ∧
      worked.field.ring = [] ++ ⟨23, .potNode, .active, 0, 0⟩ :: [⟨8, .unitNode, .active, 1, 0⟩] ∧
      ((unitTurn worked).field.ring = [⟨23, .potNode, .active, 0, 0⟩] ++ ⟨8, .unitNode, .active, 1, 0⟩ :: [] ∧
        (unitTurn worked).field.walk = some 1) := by
  decide +kernel

/-- The worked line between turns, with a ring of its own at a walk position of its own. -/
def walking (ring : List RingEntry) (walk : Nat) (gave idle : Bool) : State :=
  { worked with field := { worked.field with ring := ring, walk := some walk, passGave := gave, idle := idle } }

/-- The words of the walk: entries that are passed over and entries that are due, at the boundary of the pass counter. -/
theorem witness_WalkGivesTurnsInRingOrder :
    passedOver ⟨23, .potNode, .absent, 3, 14⟩ ∧ due ⟨23, .potNode, .absent, 3, 15⟩ ∧ due ⟨8, .unitNode, .active, 1, 0⟩ ∧
    ¬passedOver ⟨23, .potNode, .absent, 3, 15⟩ ∧ ¬passedOver ⟨8, .unitNode, .active, 1, 0⟩ := by
  decide +kernel

/-- The clauses of TURN between turns: a due entry further on; a pass at its end that gave no turn; one that gave a turn,
where the next pass finds a due entry and where it finds none. -/
theorem witness_WalkGivesTurnsInRingOrder_turn :
    let absent := fun n => RingEntry.mk 23 .potNode .absent 3 n
    let active := RingEntry.mk 8 .unitNode .active 1 0
    (walking ([] ++ [absent 14] ++ active :: []) 0 true false).field.ring = [] ++ [absent 14] ++ active :: [] ∧
    (walking ([] ++ [absent 14]) 0 false false).field.ring = [] ++ [absent 14] ∧
    ([active] ++ [absent 14].map counted = [] ++ active :: [absent 15] ∧ due active) ∧
    (∀ x ∈ ([] : List RingEntry) ++ [absent 13].map counted, passedOver x) ∧
    (walking [absent 14] 0 true false).field.turn = none ∧ (walking [absent 14] 0 true false).field.idle = false ∧
    (walking [absent 14] 0 true false).field.passGave = true := by
  decide +kernel

/-- The other clauses: a reply in progress, an empty ring, a window, the idle time with and without a due entry. -/
theorem witness_WalkGivesTurnsInRingOrder_rest :
    ((after .pass (potTurn worked)).field.turn = some ⟨23, .potNode, true, .reply⟩ ∧
      (after .pass (potTurn worked)).field.idle = false) ∧
    (State.reset.field.turn = none ∧ State.reset.field.walk = none) ∧
    (sound.field.awaited ≠ none ∧ sound.field.idle = false) ∧
    ((walking absentRing.field.ring 0 false true).field.idle = true ∧
      ∀ e ∈ (walking absentRing.field.ring 0 false true).field.ring, passedOver e) ∧
    (let e := RingEntry.mk 8 .unitNode .absent 3 15
    (walking ([⟨23, .potNode, .absent, 3, 14⟩] ++ e :: []) 0 false true).field.walk = some 0 ∧ due e) := by
  decide +kernel

theorem witness_MissedTurnIsCounted :
    worked.field.awaited = none ∧
    ((unitTurn worked).field.awaited = some ⟨8, .unitNode, true, .await⟩ ∧ (unitTurn worked).field.walk = some 1 ∧
      (unitTurn worked).field.ring[1]? = some ⟨8, .unitNode, .active, 1, 0⟩) ∧
    (after (.dropNode 8) (unitTurn worked)).field.awaited = some ⟨8, .unitNode, false, .await⟩ := by
  decide +kernel

theorem witness_AnyCharacterAnswersTheTurn :
    (potTurn worked).field.awaited = some ⟨23, .potNode, true, .await⟩ ∧
      (judgeField .potNode (fieldFrame [0x00])).1 ≠ .ok ∧
      fieldRequest (.switchDone 41 12) = some (3, be 2 41 ++ be 1 12) := by
  decide +kernel

theorem witness_PortEventsAndBusyReceiver :
    (judgePort (portFrame [0x00])).1 ≠ .ok ∧ (after (.readPotRange 1 23) worked).port.due ≠ [] ∧
      (after .run worked).port.reply ≠ none ∧ (after .run worked).port.due = [] ∧
      (after .lmBreak worked).port.waitIdle = true ∧ lineRequest .run ≠ none := by
  decide +kernel

/-- A frame for each verdict of each link, and the boundaries of the structure: a lone start marker, a missing end. -/
theorem witness_FramesAreJudgedInOrder :
    shaped [0x3C, 0x3D] [0xC3, 0x01, 0x44, 0xBB, 0x3C] 0x44 [] 0xBB ∧ frameTotal 0x44 [] 0xBB % 256 = 0 ∧
    lineSizeRight 0x44 [] ∧ ¬lineSizeRight 0x44 [0] ∧ lineSizeRight 0x56 [2, 0] ∧ ¬lineSizeRight 0x56 [2, 1] ∧
    frameTotal 0x44 [] 0xBC % 256 ≠ 0 ∧ shaped [0x3C] [0xC3, 0x01, 0x07, 0xF8, 0x3C] 0x07 [] 0xF8 ∧
    (0x07, [0]) ∈ fieldSizes ∧ 0x47 ∉ lineSizes.map Prod.fst ∧
    (judgePort (portFrame [0xC3])).1 = .form ∧ (judgeField .potNode (fieldFrame [0xC3])).1 = .form := by
  refine ⟨⟨by decide, 0x3C, by decide, rfl⟩, by decide, ?_, ?_, ?_, ?_, by decide, ⟨by decide, 0x3C, by decide, rfl⟩, by decide,
    by decide, by decide +kernel, by decide +kernel⟩ <;> simp [lineSizeRight, lineSizes]

theorem witness_ReplyFrameAddsUpToZero : (Reply.mk .ok .done (List.replicate 249 0) true).payload.length ≤ 249 := by
  decide +kernel

theorem witness_FieldFrameGivesRequestBack :
    (Instr.potReport (List.replicate 8 ⟨384, 255, 65535⟩)).wellFormed = true ∧ fieldCode .potNode 1 = true ∧
      (encodeField (Instr.potReport (List.replicate 8 ⟨384, 255, 65535⟩))).isSome = true := by
  decide +kernel

theorem witness_LineFrameGivesRequestBack :
    (Instr.loadTariff (.rest (List.replicate 49 ⟨86399, 255⟩)) false).wellFormed = true ∧
      (encodeLine (Instr.loadTariff (.rest (List.replicate 49 ⟨86399, 255⟩)) false)).isSome = true := by
  decide +kernel

theorem witness_ResetEmptiesPotTable : ∃ f, Instr.fieldFrameRefused (fieldFrame [0x00]) = .fieldFrameRefused f :=
  ⟨_, rfl⟩

end Sys2Proof.Tests
end

section
/-! PROOFS. The Pot Register (chapter 1): tables numbered from 1, what one write of a pot record does to the agreement of
R4, R5 and R23, and the part of the Register that the other blocks leave alone. -/

namespace Sys2Proof.Machine

/-! ### Tables numbered from 1 -/

theorem tget_succ {α : Type} {n : Nat} (d : α) (t : Vector α n) (k : Nat) (inside : k < n) : tget d t (k + 1) = t[k] := by
  simp [tget, inside]

theorem tget_map {α β : Type} {n : Nat} (f : α → β) (d : α) (t : Vector α n) (k : Nat) :
    tget (f d) (t.map f) k = f (tget d t k) := by
  cases k with
  | zero => rfl
  | succ k => by_cases inside : k < n <;> simp [tget, inside]

theorem tput_map {α β : Type} {n : Nat} (f : α → β) (t : Vector α n) (k : Nat) (a : α) :
    (tput t k a).map f = tput (t.map f) k (f a) := by
  cases k with
  | zero => rfl
  | succ k => simp [tput]

/-- Writing an entry's own value changes nothing. -/
theorem tput_tget {α : Type} {n : Nat} (d : α) (t : Vector α n) (k : Nat) : tput t k (tget d t k) = t := by
  cases k with
  | zero => rfl
  | succ k =>
    ext i inside
    by_cases same : k = i
    · subst same; simp [tput, tget, inside]
    · simp [tput, same]

theorem tget_tput {α : Type} {n : Nat} (t : Vector α n) (k j : Nat) (d a : α) (low : 1 ≤ j) (high : j ≤ n) :
    tget d (tput t k a) j = if k = j then a else tget d t j := by
  split
  · next same => subst same; exact tget_tput_same d t k a low high
  · next differ => exact tget_tput_other d t k j a (Ne.symm differ)

theorem tget_replicate {α : Type} (n : Nat) (d : α) (k : Nat) : tget d (Vector.replicate n d) k = d := by
  cases k with
  | zero => rfl
  | succ k => by_cases inside : k < n <;> simp [tget, inside]

theorem toList_tput {α : Type} {n : Nat} (t : Vector α n) (k : Nat) (a : α) :
    (tput t (k + 1) a).toList = t.toList.set k a := by
  simp [tput]

theorem tget_mem {α : Type} {n : Nat} (d : α) (t : Vector α n) (k : Nat) (low : 1 ≤ k) (high : k ≤ n) :
    tget d t k ∈ t.toList := by
  obtain ⟨j, rfl⟩ : ∃ j, k = j + 1 := ⟨k - 1, by omega⟩
  rw [tget_succ d t j (by omega)]
  simp

theorem mem_tput {α : Type} {n : Nat} (t : Vector α n) (k : Nat) (a x : α) (member : x ∈ (tput t k a).toList) :
    x = a ∨ x ∈ t.toList := by
  cases k with
  | zero => exact .inr member
  | succ k =>
    rw [toList_tput] at member
    exact (List.mem_or_eq_of_mem_set member).symm

theorem sum_set_add (l : List Nat) (i a : Nat) (inside : i < l.length) : (l.set i a).sum + l[i] = l.sum + a := by
  induction l generalizing i with
  | nil => simp at inside
  | cons x l ih =>
    cases i with
    | zero => simp; omega
    | succ i =>
      have := ih i (by simpa using inside)
      simp only [List.set_cons_succ, List.sum_cons, List.getElem_cons_succ]
      omega

/-- A sum over a table after one entry is written: the new share in place of the old one (R24). -/
theorem sum_tput {α : Type} {n : Nat} (f : α → Nat) (d : α) (t : Vector α n) (k : Nat) (a : α) (low : 1 ≤ k) (high : k ≤ n) :
    ((tput t k a).toList.map f).sum = (t.toList.map f).sum + f a - f (tget d t k) := by
  obtain ⟨j, rfl⟩ : ∃ j, k = j + 1 := ⟨k - 1, by omega⟩
  have inside : j < n := by omega
  have moved := sum_set_add (t.toList.map f) j (f a) (by simpa using inside)
  rw [toList_tput, List.map_set, tget_succ d t j inside]
  simp only [List.getElem_map, Vector.getElem_toList] at moved
  omega

/-- A count over a table after one entry is written (R5). -/
theorem countP_tput {α : Type} {n : Nat} (c : α → Bool) (d : α) (t : Vector α n) (k : Nat) (a : α) (low : 1 ≤ k)
    (high : k ≤ n) :
    (tput t k a).toList.countP c =
      t.toList.countP c - (if c (tget d t k) = true then 1 else 0) + if c a = true then 1 else 0 := by
  obtain ⟨j, rfl⟩ : ∃ j, k = j + 1 := ⟨k - 1, by omega⟩
  have inside : j < n := by omega
  rw [toList_tput, List.countP_set (by simpa using inside), tget_succ d t j inside, Vector.getElem_toList]

/-! ### The owner counts (R5) -/

/-- The count of an address after a record leaves one address and joins another. A record that leaves is counted. -/
theorem tget_moveOwner (counts : Vector Nat 62) (old new : Option Nat) (a : Nat) (low : 1 ≤ a) (high : a ≤ 62)
    (counted : old = some a → 1 ≤ tget 0 counts a) :
    tget 0 (moveOwner counts old new) a =
      tget 0 counts a - (if old = some a then 1 else 0) + if new = some a then 1 else 0 := by
  have lowered : ∀ b, tget 0 (tput counts b (tget 0 counts b - 1)) a =
      tget 0 counts a - if b = a then 1 else 0 := fun b => by
    rw [tget_tput counts b a _ _ low high]
    split <;> simp [*]
  have raised : ∀ (t : Vector Nat 62) (b : Nat), tget 0 (tput t b (tget 0 t b + 1)) a =
      tget 0 t a + if b = a then 1 else 0 := fun t b => by
    rw [tget_tput t b a _ _ low high]
    split <;> simp [*]
  by_cases kept : old = new
  · subst kept
    have := counted
    simp only [moveOwner, if_true]
    split <;> simp_all
  · cases old with
    | none =>
      cases new with
      | none => exact absurd rfl kept
      | some c => simp [moveOwner, raised]
    | some b =>
      cases new with
      | none => simp [moveOwner, lowered]
      | some c =>
        simp only [moveOwner, kept, if_false, raised, lowered, Option.some.injEq]

/-! ### One write of a pot record keeps the agreement (R4, R5, R23, R24) -/

/-- The owner, the voltage and R of a record stand as its circuit state allows (R4). -/
structure PotRecord.Placed (r : PotRecord) : Prop where
  vacant : r.circuit = .vacant → r.owner = none ∧ r.voltage = 0 ∧ r.resistance = 0
  owner : r.circuit ≠ .vacant → ∃ a, r.owner = some a ∧ 1 ≤ a ∧ a ≤ topNode

theorem PotRegister.Sound.placed {g : PotRegister} (sound : g.Sound) (p : Nat) (known : isPosition p = true) :
    (tget PotRecord.empty g.table p).Placed := by
  obtain ⟨low, high⟩ := (isPosition_iff p).mp known
  have member := tget_mem PotRecord.empty g.table p low high
  exact ⟨sound.vacant _ member, sound.owner _ member⟩

/-- A pot that is not VACANT stands at a position of the line (R1). -/
theorem State.isPosition_of_defined {s : State} {p : Nat} (defined : (s.pot p).circuit ≠ .vacant) :
    isPosition p = true := by
  by_contra out
  rw [isPosition_iff] at out
  have outside : s.pot p = PotRecord.empty := tget_outside _ _ _ (by omega)
  exact defined (outside ▸ rfl)

theorem PotRegister.Sound.pot_owner {s : State} (sound : s.pots.Sound) (p : Nat)
    (defined : (s.pot p).circuit ≠ .vacant) : ∃ a, (s.pot p).owner = some a ∧ 1 ≤ a ∧ a ≤ topNode :=
  (sound.placed p (State.isPosition_of_defined defined)).owner defined

/-- A record that is counted at an address keeps the count of the address above 0. -/
theorem PotRegister.Sound.counted {g : PotRegister} (sound : g.Sound) (p a : Nat) (known : isPosition p = true)
    (low : 1 ≤ a) (high : a ≤ topNode) (owned : (tget PotRecord.empty g.table p).countedOwner = some a) :
    1 ≤ tget 0 g.ownerCounts a := by
  obtain ⟨first, last⟩ := (isPosition_iff p).mp known
  rw [sound.owned a low high]
  exact List.countP_pos_iff.mpr ⟨_, tget_mem PotRecord.empty g.table p first last, by simp [owned]⟩

/-- The central rule of the Pot Register: a record that stands as R4 says, and does not join an address that already has 8,
leaves the Register sound. -/
theorem PotRegister.put_sound (g : PotRegister) (p : Nat) (r : PotRecord) (sound : g.Sound) (placed : r.Placed)
    (room : r.countedOwner = (tget PotRecord.empty g.table p).countedOwner ∨
      ∀ a, r.countedOwner = some a → tget 0 g.ownerCounts a < 8) :
    (g.put p r).Sound := by
  by_cases known : isPosition p = true
  swap
  · rw [PotRegister.put_outside _ _ _ (by simpa using known)]; exact sound
  obtain ⟨low, high⟩ := (isPosition_iff p).mp known
  obtain ⟨nIn, nOut, sumR, sumV⟩ := PotRegister.put_sums g p r known
  have table := PotRegister.put_table g p r known
  have counts : (g.put p r).ownerCounts =
      moveOwner g.ownerCounts (tget PotRecord.empty g.table p).countedOwner r.countedOwner := by
    simp [PotRegister.put, known]
  have moved : ∀ a, 1 ≤ a → a ≤ topNode → tget 0 (g.put p r).ownerCounts a =
      tget 0 g.ownerCounts a - (if (tget PotRecord.empty g.table p).countedOwner = some a then 1 else 0) +
        if r.countedOwner = some a then 1 else 0 := fun a first last => by
    rw [counts]
    exact tget_moveOwner _ _ _ a first last (sound.counted p a known first last)
  have each : ∀ x ∈ (g.put p r).table.toList, x = r ∨ x ∈ g.table.toList := fun x member =>
    mem_tput g.table p r x (table ▸ member)
  constructor
  case countIn => rw [nIn, table, sum_tput _ PotRecord.empty _ _ _ low high, sound.countIn]
  case countOut => rw [nOut, table, sum_tput _ PotRecord.empty _ _ _ low high, sound.countOut]
  case sumR => rw [sumR, table, sum_tput _ PotRecord.empty _ _ _ low high, sound.sumR]
  case sumV => rw [sumV, table, sum_tput _ PotRecord.empty _ _ _ low high, sound.sumV]
  case owned =>
    intro a first last
    rw [moved a first last, table, countP_tput _ PotRecord.empty _ _ _ low high, sound.owned a first last]
    simp
  case atMostEight =>
    intro a
    by_cases inside : 1 ≤ a ∧ a ≤ 62
    · have few := sound.atMostEight a
      have counted := sound.counted p a known inside.1 inside.2
      rw [moved a inside.1 inside.2]
      rcases room with same | room
      · rw [same]
        by_cases here : (tget PotRecord.empty g.table p).countedOwner = some a
        · have := counted here
          simp [here]; omega
        · simpa [here] using few
      · by_cases here : r.countedOwner = some a
        · have := room a here
          simp only [here, if_true]
          omega
        · simp only [here, if_false]
          omega
    · rw [tget_outside _ _ _ (by omega)]; omega
  case vacant =>
    intro x member
    rcases each x member with rfl | old
    · exact placed.vacant
    · exact sound.vacant x old
  case owner =>
    intro x member
    rcases each x member with rfl | old
    · exact placed.owner
    · exact sound.owner x old

theorem State.putPot_sound (s : State) (p : Nat) (r : PotRecord) (sound : s.pots.Sound) (placed : r.Placed)
    (room : r.countedOwner = (s.pot p).countedOwner ∨ ∀ a, r.countedOwner = some a → s.ownerCount a < 8) :
    (s.putPot p r).pots.Sound :=
  PotRegister.put_sound s.pots p r sound placed room

/-- A record that keeps the owner of a pot that is not VACANT, and is not VACANT itself, leaves the Register sound,
whatever else of it changes: a report (R15) and a circuit change (R21, R22). -/
theorem State.putPot_sound_of_owner (s : State) (p : Nat) (r : PotRecord) (sound : s.pots.Sound)
    (before : (s.pot p).circuit ≠ .vacant) (after : r.circuit ≠ .vacant) (owner : r.owner = (s.pot p).owner) :
    (s.putPot p r).pots.Sound := by
  refine State.putPot_sound s p r sound ⟨fun h => absurd h after, fun _ => ?_⟩ (.inl ?_)
  · rw [owner]; exact sound.pot_owner p before
  · simp [PotRecord.countedOwner, before, after, owner]

/-! ### The lines of the Register: what the watch, the arbiter and the switching leave alone -/

/-- A record with only the fields that the Pot Register keeps for itself (R2): those of the watch, the permits and the
switching stand at their reset values. -/
def PotRecord.line (r : PotRecord) : PotRecord :=
  { PotRecord.empty with
    circuit := r.circuit, tag := r.tag, owner := r.owner, voltage := r.voltage, reportStamp := r.reportStamp
    silent := r.silent, resistance := r.resistance }

/-- The Register with only the fields of each record that it keeps for itself. -/
def PotRegister.line (g : PotRegister) : PotRegister :=
  { g with table := g.table.map PotRecord.line }

@[simp] theorem PotRecord.line_empty : PotRecord.empty.line = PotRecord.empty := rfl
@[simp] theorem PotRecord.line_countIn (r : PotRecord) : r.line.countIn = r.countIn := rfl
@[simp] theorem PotRecord.line_countOut (r : PotRecord) : r.line.countOut = r.countOut := rfl
@[simp] theorem PotRecord.line_shareR (r : PotRecord) : r.line.shareR = r.shareR := rfl
@[simp] theorem PotRecord.line_shareV (r : PotRecord) : r.line.shareV = r.shareV := rfl
@[simp] theorem PotRecord.line_countedOwner (r : PotRecord) : r.line.countedOwner = r.countedOwner := rfl

/-- The fields that the line of a record fixes. -/
theorem PotRecord.line_eq_iff (r q : PotRecord) : r.line = q.line ↔
    r.circuit = q.circuit ∧ r.tag = q.tag ∧ r.owner = q.owner ∧ r.voltage = q.voltage ∧
      r.reportStamp = q.reportStamp ∧ r.silent = q.silent ∧ r.resistance = q.resistance := by
  simp [PotRecord.line]

theorem PotRegister.tget_line (g : PotRegister) (p : Nat) :
    tget PotRecord.empty g.line.table p = (tget PotRecord.empty g.table p).line :=
  tget_map PotRecord.line PotRecord.empty g.table p

theorem State.pot_line_congr {s t : State} (same : t.pots.line = s.pots.line) (p : Nat) :
    (t.pot p).line = (s.pot p).line := by
  simp only [State.pot, ← PotRegister.tget_line, same]

/-- The agreement of R4, R5 and R23 reads the lines of the Register only. -/
theorem PotRegister.line_sound_iff (g : PotRegister) : g.line.Sound ↔ g.Sound := by
  have sums : ∀ f : PotRecord → Nat, (∀ r, f r.line = f r) →
      (g.line.table.toList.map f).sum = (g.table.toList.map f).sum := by
    intro f same
    simp [PotRegister.line, Vector.toList_map, Function.comp_def, same]
  have records : ∀ P : PotRecord → Prop, (∀ r, P r.line ↔ P r) →
      ((∀ r ∈ g.line.table.toList, P r) ↔ ∀ r ∈ g.table.toList, P r) := by
    intro P same
    simp [PotRegister.line, Vector.toList_map, same]
  have owners : ∀ a, g.line.table.toList.countP (fun r => r.countedOwner == some a) =
      g.table.toList.countP fun r => r.countedOwner == some a := by
    intro a
    simp [PotRegister.line, Vector.toList_map, List.countP_map, Function.comp_def]
  have vacant := records (fun r => r.circuit = .vacant → r.owner = none ∧ r.voltage = 0 ∧ r.resistance = 0)
    fun _ => Iff.rfl
  have owner := records (fun r => r.circuit ≠ .vacant → ∃ a, r.owner = some a ∧ 1 ≤ a ∧ a ≤ topNode) fun _ => Iff.rfl
  constructor
  · intro sound
    exact ⟨(sums _ PotRecord.line_countIn) ▸ sound.countIn, (sums _ PotRecord.line_countOut) ▸ sound.countOut,
      (sums _ PotRecord.line_shareR) ▸ sound.sumR, (sums _ PotRecord.line_shareV) ▸ sound.sumV,
      fun a low high => (owners a) ▸ sound.owned a low high, sound.atMostEight, vacant.mp sound.vacant,
      owner.mp sound.owner⟩
  · intro sound
    exact ⟨(sums _ PotRecord.line_countIn).symm ▸ sound.countIn, (sums _ PotRecord.line_countOut).symm ▸ sound.countOut,
      (sums _ PotRecord.line_shareR).symm ▸ sound.sumR, (sums _ PotRecord.line_shareV).symm ▸ sound.sumV,
      fun a low high => (owners a).symm ▸ sound.owned a low high, sound.atMostEight, vacant.mpr sound.vacant,
      owner.mpr sound.owner⟩

theorem PotRegister.Sound.of_line {g h : PotRegister} (sound : g.Sound) (same : h.line = g.line) : h.Sound :=
  h.line_sound_iff.mp (same ▸ g.line_sound_iff.mpr sound)

/-- A write that keeps the line of its record keeps the lines of the Register. -/
theorem PotRegister.put_line (g : PotRegister) (p : Nat) (r : PotRecord)
    (same : r.line = (tget PotRecord.empty g.table p).line) : (g.put p r).line = g.line := by
  by_cases known : isPosition p = true
  swap
  · rw [PotRegister.put_outside _ _ _ (by simpa using known)]
  have table : (tput g.table p r).map PotRecord.line = g.table.map PotRecord.line := by
    rw [tput_map, same, ← tget_map PotRecord.line, PotRecord.line_empty, tput_tget]
  have shares : ∀ f : PotRecord → Nat, (∀ r, f r.line = f r) → f r = f (tget PotRecord.empty g.table p) := by
    intro f lined
    rw [← lined r, same, lined]
  have owner : r.countedOwner = (tget PotRecord.empty g.table p).countedOwner := by
    rw [← PotRecord.line_countedOwner r, same, PotRecord.line_countedOwner]
  simp [PotRegister.put, known, PotRegister.line, table, owner, moveOwner, shares _ PotRecord.line_countIn,
    shares _ PotRecord.line_countOut, shares _ PotRecord.line_shareR, shares _ PotRecord.line_shareV]

theorem State.putPot_line (s : State) (p : Nat) (r : PotRecord) (same : r.line = (s.pot p).line) :
    (s.putPot p r).pots.line = s.pots.line :=
  PotRegister.put_line s.pots p r same

end Sys2Proof.Machine
end

section
/-! PROOFS. What the shared operations and the serving rules do to the Pot Register: the watch, the arbiter, the switching,
the evaluation and the meter keep its lines; and a property that every serving keeps, every request keeps. -/

namespace Sys2Proof.Machine

/-! ### Queues, slots and evaluations -/

@[simp] theorem State.enterQuenchQueue_pots (s : State) (p : Nat) : (s.enterQuenchQueue p).pots = s.pots := rfl
@[simp] theorem State.leaveQuenchQueue_pots (s : State) (p : Nat) : (s.leaveQuenchQueue p).pots = s.pots := rfl

theorem State.freeSlotOf_frame (s : State) (p : Nat) :
    s.freeSlotOf p = { s with quench := (s.freeSlotOf p).quench } := by
  unfold State.freeSlotOf
  split <;> rfl

@[simp] theorem State.freeSlotOf_pots (s : State) (p : Nat) : (s.freeSlotOf p).pots = s.pots := by
  rw [State.freeSlotOf_frame]

@[simp] theorem State.evaluate_pots (s : State) (cycle : Bool) : (s.evaluate cycle).pots = s.pots :=
  (State.evaluate_tables s cycle).1

@[simp] theorem State.eventEvaluation_pots (s : State) : s.eventEvaluation.pots = s.pots :=
  State.evaluate_pots s false

@[simp] theorem State.grant_line (s : State) (p slot : Nat) : (s.grant p slot).pots.line = s.pots.line := by
  unfold State.grant
  rw [State.eventEvaluation_pots]
  exact State.putPot_line _ p _ rfl

theorem State.grantLoop_line (n : Nat) (s : State) : (State.grantLoop n s).pots.line = s.pots.line := by
  induction n generalizing s with
  | zero => rfl
  | succ n ih =>
    unfold State.grantLoop
    split
    · split
      · rw [ih, State.grant_line]
      · rfl
    · rfl

@[simp] theorem State.grantEvaluation_line (s : State) : s.grantEvaluation.pots.line = s.pots.line :=
  State.grantLoop_line 4 s

@[simp] theorem State.endQuench_line (s : State) (p : Nat) : (s.endQuench p).pots.line = s.pots.line := by
  unfold State.endQuench
  rw [State.putPot_line _ p _ (by simp only [State.pot, State.freeSlotOf_pots]; rfl), State.freeSlotOf_pots]

@[simp] theorem State.settleExpired_line (s : State) (p : Nat) : (s.settleExpired p).pots.line = s.pots.line :=
  State.putPot_line s p _ rfl

@[simp] theorem State.permitExpired_line (s : State) (k p : Nat) : (s.permitExpired k p).pots.line = s.pots.line :=
  State.putPot_line (s.putSlot k none) p _ rfl

/-! ### Switching -/

@[simp] theorem State.startHead_line (s : State) (p : Nat) : (s.startHead p).pots.line = s.pots.line :=
  State.putPot_line s p _ rfl

@[simp] theorem State.advanceSwitchQueue_line (s : State) (p : Nat) :
    (s.advanceSwitchQueue p).pots.line = s.pots.line := by
  unfold State.advanceSwitchQueue
  split
  · rfl
  · split
    · split
      · rfl
      · exact State.startHead_line _ _
    · rfl

@[simp] theorem State.endSwitch_line (s : State) (p : Nat) (result : SwitchResult) :
    (s.endSwitch p result).pots.line = s.pots.line :=
  (State.advanceSwitchQueue_line _ p).trans (State.putPot_line s p _ rfl)

@[simp] theorem State.expireSwitch_line (s : State) (p : Nat) (result : SwitchResult) :
    (s.expireSwitch p result).pots.line = s.pots.line :=
  State.endSwitch_line s p result

@[simp] theorem State.startSwitch_line (s : State) (p : Nat) (d : Direction) :
    (s.startSwitch p d).pots.line = s.pots.line := by
  unfold State.startSwitch
  dsimp only
  split
  · rw [State.eventEvaluation_pots]
    exact State.putPot_line s p _ rfl
  · exact State.putPot_line s p _ rfl

@[simp] theorem State.compareHead_line (s : State) : s.compareHead.pots.line = s.pots.line := by
  unfold State.compareHead
  split
  · split
    · exact State.putPot_line s _ _ rfl
    · rfl
  · rfl

/-! ### The watch -/

@[simp] theorem State.cancelByEffect_line (s : State) (p : Nat) : (s.cancelByEffect p).pots.line = s.pots.line := by
  unfold State.cancelByEffect
  split
  · exact State.endSwitch_line s p _
  · rfl

@[simp] theorem State.confirmEffect_line (s : State) (p : Nat) : (s.confirmEffect p).pots.line = s.pots.line := by
  unfold State.confirmEffect
  rw [State.grantEvaluation_line, State.raise_pots, State.enterQuenchQueue_pots, State.cancelByEffect_line]
  exact State.putPot_line s p _ rfl

@[simp] theorem State.releaseClaim_line (s : State) (p : Nat) : (s.releaseClaim p).pots.line = s.pots.line := by
  unfold State.releaseClaim
  split
  · rfl
  · rw [State.grantEvaluation_line, State.putPot_line _ p _ (by simp only [State.pot, State.freeSlotOf_pots]; rfl),
      State.freeSlotOf_pots]
  · exact State.putPot_line s p _ rfl
  · rfl

@[simp] theorem State.endEffect_line (s : State) (p : Nat) : (s.endEffect p).pots.line = s.pots.line := by
  unfold State.endEffect
  refine Eq.trans (State.putPot_line (s.releaseClaim p) p _ ?_) (State.releaseClaim_line s p)
  rfl

/-- What an examined report can do (R29 to R36): nothing, a write of the pot's own watch fields, a confirmation, or the end
of an effect. -/
theorem State.examineReport_cases (s : State) (p : Nat) :
    s.examineReport p = s ∨ (∃ r, s.examineReport p = s.putPot p r ∧ r.line = (s.pot p).line) ∨
      s.examineReport p = s.confirmEffect p ∨ s.examineReport p = s.endEffect p := by
  unfold State.examineReport
  dsimp only
  split
  · split
    · exact .inl rfl
    · split
      · exact .inr (.inl ⟨_, rfl, rfl⟩)
      · exact .inl rfl
  · split
    · exact .inr (.inl ⟨_, rfl, rfl⟩)
    · split
      · exact .inl rfl
      · exact .inr (.inr (.inl rfl))
  all_goals
    split
    · exact .inr (.inr (.inr rfl))
    · exact .inl rfl

/-- Whatever the watch decides on a report, it leaves the lines of the Register alone (R15 step 4). -/
@[simp] theorem State.examineReport_line (s : State) (p : Nat) : (s.examineReport p).pots.line = s.pots.line := by
  rcases State.examineReport_cases s p with h | ⟨r, h, same⟩ | h | h <;> rw [h]
  · exact State.putPot_line s p r same
  · exact State.confirmEffect_line s p
  · exact State.endEffect_line s p

@[simp] theorem State.escalate_line (s : State) (p : Nat) : (s.escalate p).pots.line = s.pots.line := by
  unfold State.escalate
  dsimp only
  split
  · rw [State.grantEvaluation_line]
    exact State.putPot_line s p _ rfl
  · exact State.putPot_line s p _ rfl

/-! ### The dispatch cycle and the metering tick -/

@[simp] theorem State.cycleWork_line (s : State) (arbiterFirst : Bool) :
    (s.cycleWork arbiterFirst).pots.line = s.pots.line := by
  unfold State.cycleWork
  split <;> simp

theorem State.clearDailyCounts_line (s : State) : s.clearDailyCounts.pots.line = s.pots.line := by
  have table : (s.pots.table.mapIdx fun _ r => { r with aeCount := 0, aeSeconds := 0 }).map PotRecord.line =
      s.pots.table.map PotRecord.line := by
    ext i inside
    simp [PotRecord.line]
  simp only [State.clearDailyCounts_pots, PotRegister.line, table]

@[simp] theorem State.calendarMoved_line (s : State) : s.calendarMoved.pots.line = s.pots.line := by
  unfold State.calendarMoved
  split
  · rw [State.clearDailyCounts_line, State.withMeter_pots]
  · rfl

@[simp] theorem State.intervalClosed_pots (s : State) (duration : Nat) : (s.intervalClosed duration).pots = s.pots := rfl

@[simp] theorem State.periodClosed_pots (s : State) : s.periodClosed.pots = s.pots := by
  unfold State.periodClosed
  split <;> rfl

@[simp] theorem State.closeOrProject_pots (s : State) : s.closeOrProject.pots = s.pots := by
  unfold State.closeOrProject
  split
  · exact State.periodClosed_pots _
  · unfold State.project
    dsimp only
    split <;> rfl

@[simp] theorem State.tick_line (s : State) (shed : Bool) : (s.tick shed).pots.line = s.pots.line := by
  unfold State.tick
  rw [State.closeOrProject_pots, State.calendarMoved_line]
  rfl

/-! ### Unit reports -/

@[simp] theorem State.acceptUnitReport_pots (s : State) (u measured temperature : Nat) (flowOk breakerClosed : Bool) :
    (s.acceptUnitReport u measured temperature flowOk breakerClosed).pots = s.pots := by
  have raised : ∀ (t : State) (c : Bool) (source : Source) (detail : Nat),
      (t.raiseIf c source detail).pots = t.pots := by
    intro t c source detail
    unfold State.raiseIf
    split <;> rfl
  unfold State.acceptUnitReport
  dsimp only
  split <;> simp [raised]

/-! ### What every serving keeps, every request keeps -/

theorem State.loadFrame_keeps (P : State → Prop) (s : State) (serve : State → State × Reply) (before : P s)
    (served : ∀ t, P t → P (serve t).1) (sent : ∀ t first due, P t → P (t.sendFrames first due)) :
    P (s.loadFrame serve) := by
  unfold State.loadFrame
  split
  · exact sent _ _ _ (served _ before)
  · exact before

theorem State.lineRequest_keeps (P : State → Prop) (s : State) (serve : State → State × Reply) (before : P s)
    (abandoned : ∀ t, P t → P t.abandonLoad) (served : ∀ t, P t → P (serve t).1)
    (sent : ∀ t first due, P t → P (t.sendFrames first due)) : P (s.lineRequest serve) :=
  State.loadFrame_keeps P s _ before (fun t kept => served _ (abandoned t kept)) sent

theorem State.fieldRequest_keeps (P : State → Prop) (s : State) (kinds : List NodeKind)
    (serve : Nat → State → State × Reply) (before : P s) (answered : ∀ t, P t → P t.nodeAnswered)
    (served : ∀ node t, P t → P (serve node t).1) (replied : ∀ t r, P t → P (t.sendFieldReply r)) :
    P (s.fieldRequest kinds serve) := by
  unfold State.fieldRequest
  split
  · split
    · exact replied _ _ (served _ _ (answered _ before))
    · exact replied _ _ (answered _ before)
  · exact before

/-- A line master request whose serving leaves the Pot Register alone does so itself. -/
theorem State.lineRequest_pots (s : State) (serve : State → State × Reply)
    (served : ∀ t, (serve t).1.pots = t.pots) : (s.lineRequest serve).pots = s.pots :=
  State.lineRequest_keeps (fun t => t.pots = s.pots) s serve rfl (fun _ kept => kept)
    (fun t kept => (served t).trans kept) (fun _ _ _ kept => kept)

theorem State.loadFrame_pots (s : State) (serve : State → State × Reply)
    (served : ∀ t, (serve t).1.pots = t.pots) : (s.loadFrame serve).pots = s.pots :=
  State.loadFrame_keeps (fun t => t.pots = s.pots) s serve rfl (fun t kept => (served t).trans kept)
    (fun _ _ _ kept => kept)

/-- A field request whose serving keeps the lines of the Pot Register does so itself. -/
theorem State.fieldRequest_line (s : State) (kinds : List NodeKind) (serve : Nat → State → State × Reply)
    (served : ∀ node t, (serve node t).1.pots.line = t.pots.line) :
    (s.fieldRequest kinds serve).pots.line = s.pots.line :=
  State.fieldRequest_keeps (fun t => t.pots.line = s.pots.line) s kinds serve rfl (fun _ kept => kept)
    (fun node t kept => (served node t).trans kept) (fun _ _ kept => kept)

theorem State.lineRequest_pots_sound (s : State) (serve : State → State × Reply) (sound : s.pots.Sound)
    (served : ∀ t, t.pots.Sound → (serve t).1.pots.Sound) : (s.lineRequest serve).pots.Sound :=
  State.lineRequest_keeps (fun t => t.pots.Sound) s serve sound (fun _ kept => kept) served (fun _ _ _ kept => kept)

theorem State.fieldRequest_pots_sound (s : State) (kinds : List NodeKind) (serve : Nat → State → State × Reply)
    (sound : s.pots.Sound) (served : ∀ node t, t.pots.Sound → (serve node t).1.pots.Sound) :
    (s.fieldRequest kinds serve).pots.Sound :=
  State.fieldRequest_keeps (fun t => t.pots.Sound) s kinds serve sound (fun _ kept => kept) served
    (fun _ _ kept => kept)

/-! ### The identity checks (R12) -/

theorem State.identity_done_iff (s : State) (node : Option Nat) (p tag : Nat) :
    s.identity node p tag = .done ↔
      isPosition p = true ∧ (s.pot p).circuit ≠ .vacant ∧ (node.isSome = true → (s.pot p).owner = node) ∧
        (s.pot p).tag = tag := by
  unfold State.identity
  split
  · simp_all
  · split
    · simp_all
    · split
      · simp_all
      · split <;> simp_all

/-! ### Servings that leave the Pot Register alone -/

@[simp] theorem State.serveAck_pots (s : State) (code count : Nat) : (s.serveAck code count).1.pots = s.pots := by
  unfold State.serveAck
  dsimp only
  split <;> rfl

@[simp] theorem State.serveSetMask_pots (s : State) (marks : Nat) : (s.serveSetMask marks).1.pots = s.pots := by
  unfold State.serveSetMask
  split <;> rfl

@[simp] theorem State.serveSetParam_pots (s : State) (identifier value : Nat) :
    (s.serveSetParam identifier value).1.pots = s.pots := by
  unfold State.serveSetParam
  split
  · dsimp only [State.answer]
    split
    · exact State.eventEvaluation_pots _
    · rfl
  · rfl

@[simp] theorem State.serveReadParam_pots (s : State) (identifier : Nat) :
    (s.serveReadParam identifier).1.pots = s.pots := by
  unfold State.serveReadParam
  split <;> rfl

@[simp] theorem State.serveRun_pots (s : State) : s.serveRun.1.pots = s.pots := by
  unfold State.serveRun
  split
  · rfl
  · split
    · rfl
    · exact State.eventEvaluation_pots _

@[simp] theorem State.serveHold_pots (s : State) : s.serveHold.1.pots = s.pots := by
  unfold State.serveHold
  split
  · rfl
  · split
    · rfl
    · exact State.eventEvaluation_pots _

@[simp] theorem State.serveResume_pots (s : State) : s.serveResume.1.pots = s.pots := by
  unfold State.serveResume
  split
  · rfl
  · exact State.eventEvaluation_pots _

@[simp] theorem State.serveLoadTariff_pots (s : State) (part : TariffPart) (final : Bool) :
    (s.serveLoadTariff part final).1.pots = s.pots := by
  have finished : ∀ h working rest, (s.finishLoad h working rest).1.pots = s.pots := by
    intro h working rest
    unfold State.finishLoad
    split <;> rfl
  unfold State.serveLoadTariff
  split
  · split
    · rfl
    · split
      · split
        · exact finished _ _ _
        · rfl
      · rfl
      · rfl
  · split
    · split
      · exact finished _ _ _
      · rfl
    · rfl
    · rfl
  · split
    · split
      · exact finished _ _ _
      · rfl
    · rfl
    · rfl

@[simp] theorem State.serveReadTariff_pots (s : State) (selector : Nat) :
    (s.serveReadTariff selector).1.pots = s.pots := by
  unfold State.serveReadTariff
  split
  · rfl
  · split <;> rfl

@[simp] theorem State.serveSetClock_pots (s : State) (time day : Nat) : (s.serveSetClock time day).1.pots = s.pots := by
  unfold State.serveSetClock
  split
  · rfl
  · exact State.periodClosed_pots _

@[simp] theorem State.serveCurtail_pots (s : State) (limit minutes : Nat) :
    (s.serveCurtail limit minutes).1.pots = s.pots := by
  unfold State.serveCurtail
  split <;> rfl

@[simp] theorem State.serveCancelCurtail_pots (s : State) : s.serveCancelCurtail.1.pots = s.pots := by
  unfold State.serveCancelCurtail
  split <;> rfl

@[simp] theorem State.serveAddNode_pots (s : State) (address kind : Nat) :
    (s.serveAddNode address kind).1.pots = s.pots := by
  unfold State.serveAddNode
  split <;> rfl

@[simp] theorem State.serveDropNode_pots (s : State) (address : Nat) : (s.serveDropNode address).1.pots = s.pots := by
  unfold State.serveDropNode
  split
  · rfl
  · split <;> rfl

@[simp] theorem State.serveReadPot_pots (s : State) (p : Nat) : (s.serveReadPot p).1.pots = s.pots := by
  unfold State.serveReadPot
  split <;> rfl

@[simp] theorem State.serveReadUnit_pots (s : State) (u : Nat) : (s.serveReadUnit u).1.pots = s.pots := by
  unfold State.serveReadUnit
  split <;> rfl

@[simp] theorem State.tripUnit_pots (s : State) (u : Nat) (cause : TripCause) : (s.tripUnit u cause).pots = s.pots :=
  State.eventEvaluation_pots _

@[simp] theorem State.loseUnit_pots (s : State) (u : Nat) : (s.loseUnit u).pots = s.pots :=
  State.eventEvaluation_pots _

@[simp] theorem State.silenceUnit_pots (s : State) (u : Nat) : (s.silenceUnit u).pots = s.pots := by
  unfold State.silenceUnit
  dsimp only
  split
  · exact State.eventEvaluation_pots _
  · rfl

@[simp] theorem State.serveTripUnit_pots (s : State) (u : Nat) : (s.serveTripUnit u).1.pots = s.pots := by
  unfold State.serveTripUnit
  split
  · rfl
  · split
    · exact State.tripUnit_pots s u _
    · rfl

@[simp] theorem State.serveDefineUnit_pots (s : State) (u node rated vMax tDerate tTrip : Nat) :
    (s.serveDefineUnit u node rated vMax tDerate tTrip).1.pots = s.pots := by
  unfold State.serveDefineUnit
  dsimp only
  split
  · exact State.eventEvaluation_pots _
  · rfl

@[simp] theorem State.serveRestoreUnit_pots (s : State) (u : Nat) : (s.serveRestoreUnit u).1.pots = s.pots := by
  unfold State.serveRestoreUnit
  dsimp only
  split
  · exact State.eventEvaluation_pots _
  · rfl

@[simp] theorem State.serveRemoveUnit_pots (s : State) (u : Nat) : (s.serveRemoveUnit u).1.pots = s.pots := by
  unfold State.serveRemoveUnit
  split
  · rfl
  · split
    · exact State.eventEvaluation_pots _
    · rfl

@[simp] theorem State.takeRange_pots (s : State) (first count : Nat) : (s.takeRange first count).pots = s.pots := by
  unfold State.takeRange
  split
  · dsimp only
    split <;> rfl
  · rfl

@[simp] theorem State.countMiss_pots (s : State) : s.countMiss.pots = s.pots := by
  unfold State.countMiss
  dsimp only
  split
  · split <;> rfl
  · rfl

/-! ### Field servings that keep the lines of the Register -/

@[simp] theorem State.serveQuenchEnd_line (s : State) (node p tag : Nat) :
    (s.serveQuenchEnd node p tag).1.pots.line = s.pots.line := by
  unfold State.serveQuenchEnd
  dsimp only
  split <;> simp

@[simp] theorem State.serveSwitchRequest_line (s : State) (node p tag direction : Nat) :
    (s.serveSwitchRequest node p tag direction).1.pots.line = s.pots.line := by
  unfold State.serveSwitchRequest
  dsimp only
  split
  · exact State.startSwitch_line s p _
  · rfl

@[simp] theorem State.serveSwitchCancel_line (s : State) (node p tag : Nat) :
    (s.serveSwitchCancel node p tag).1.pots.line = s.pots.line := by
  unfold State.serveSwitchCancel
  dsimp only
  split <;> simp

@[simp] theorem State.serveUnitReport_pots (s : State) (node u measured temperature : Nat) (flowOk breakerClosed : Bool) :
    (s.serveUnitReport node u measured temperature flowOk breakerClosed).1.pots = s.pots := by
  unfold State.serveUnitReport
  dsimp only
  split
  · exact State.acceptUnitReport_pots s u _ _ _ _
  · rfl

end Sys2Proof.Machine
end

section
/-! PROOFS. Every step keeps the agreement of the Pot Register (R4, R5, R23). -/

namespace Sys2Proof.Machine

/-! ### After reset -/

theorem PotRegister.reset_sound : State.reset.pots.Sound := by
  have table : State.reset.pots.table.toList = List.replicate 384 PotRecord.empty :=
    Vector.toList_replicate
  have records : ∀ r ∈ State.reset.pots.table.toList, r = PotRecord.empty := by
    rw [table]
    exact fun r member => List.eq_of_mem_replicate member
  have sums : ∀ f : PotRecord → Nat, f PotRecord.empty = 0 → (State.reset.pots.table.toList.map f).sum = 0 := by
    intro f zero
    rw [table, List.map_replicate, zero, List.sum_replicate, smul_zero]
  have counts : ∀ a, tget 0 State.reset.pots.ownerCounts a = 0 := tget_replicate 62 0
  constructor
  case countIn => exact (sums _ rfl).symm
  case countOut => exact (sums _ rfl).symm
  case sumR => exact (sums _ rfl).symm
  case sumV => exact (sums _ rfl).symm
  case owned =>
    intro a _ _
    rw [counts, table, List.countP_replicate]
    rfl
  case atMostEight => exact fun a => by rw [counts]; omega
  case vacant =>
    intro r member _
    rw [records r member]
    exact ⟨rfl, rfl, rfl⟩
  case owner =>
    intro r member defined
    rw [records r member] at defined
    exact absurd rfl defined

/-! ### Reports (R14, R15) -/

theorem State.acceptReport_pots_sound (s : State) (p v : Nat) (sound : s.pots.Sound)
    (defined : (s.pot p).circuit ≠ .vacant) : (s.acceptReport p v).pots.Sound := by
  have stored : (s.putPot p (s.reportedRecord (s.pot p) v)).pots.Sound :=
    State.putPot_sound_of_owner s p _ sound defined defined rfl
  unfold State.acceptReport
  dsimp only
  split
  · exact stored.of_line (State.examineReport_line _ p)
  · exact stored

theorem State.takeItem_pots_sound (s : State) (node : Nat) (i : ReportItem) (sound : s.pots.Sound) :
    (s.takeItem node i).1.pots.Sound := by
  unfold State.takeItem
  dsimp only
  split
  · next passed =>
    obtain ⟨-, defined, -, -⟩ := (State.identity_done_iff _ _ _ _).mp passed
    exact State.acceptReport_pots_sound s _ _ sound defined
  · exact sound

theorem State.takeItems_pots_sound (node : Nat) (items : List ReportItem) (s : State) (sound : s.pots.Sound) :
    (State.takeItems node items s).1.pots.Sound := by
  induction items generalizing s with
  | nil => exact sound
  | cons i rest ih => exact ih _ (State.takeItem_pots_sound s node i sound)

/-! ### Circuit changes (R21, R22) -/

theorem State.applySwitch_pots_sound (s : State) (p : Nat) (sound : s.pots.Sound)
    (defined : (s.pot p).circuit ≠ .vacant) : (s.applySwitch p).pots.Sound := by
  unfold State.applySwitch
  split
  · split
    · exact State.putPot_sound_of_owner s p _ sound defined (by simp [State.cutInRecord]) rfl
    · exact State.putPot_sound_of_owner s p _ sound defined (by simp [PotRecord.cutOut]) rfl
  · exact sound

theorem State.serveSwitchDone_pots_sound (s : State) (node p tag : Nat) (sound : s.pots.Sound) :
    (s.serveSwitchDone node p tag).1.pots.Sound := by
  unfold State.serveSwitchDone
  dsimp only
  split
  · next served =>
    have passed : s.identity (some node) p tag = .done := by
      by_contra refused
      simp [State.switchDoneStatus, refused] at served
    obtain ⟨-, defined, -, -⟩ := (State.identity_done_iff _ _ _ _).mp passed
    exact (State.applySwitch_pots_sound s p sound defined).of_line (State.endSwitch_line _ p _)
  · exact sound

/-! ### Admission, retirement and ownership (R6 to R11) -/

theorem State.serveAdmit_pots_sound (s : State) (p tag owner initial : Nat) (sound : s.pots.Sound) :
    (s.serveAdmit p tag owner initial).1.pots.Sound := by
  unfold State.serveAdmit
  dsimp only
  split
  · next served =>
    have checked : isNode owner = true ∧ s.ownerCount owner < 8 := by
      unfold State.admitStatus at served
      split_ifs at served
      simp_all
    obtain ⟨low, high⟩ := (isNode_iff owner).mp checked.1
    refine State.putPot_sound s p _ sound ⟨fun vacant => ?_, fun _ => ⟨owner, ?_, low, high⟩⟩ (.inr fun a owned => ?_)
    · split at vacant <;> simp [State.admittedIn, State.admittedOut] at vacant
    · split <;> rfl
    · have same : a = owner := by
        split at owned <;> simpa [PotRecord.countedOwner, State.admittedIn, State.admittedOut, eq_comm] using owned
      exact same ▸ checked.2
  · exact sound

theorem State.serveRetire_pots_sound (s : State) (p tag : Nat) (sound : s.pots.Sound) :
    (s.serveRetire p tag).1.pots.Sound := by
  unfold State.serveRetire
  dsimp only
  split
  · exact State.putPot_sound s p _ sound ⟨fun _ => ⟨rfl, rfl, rfl⟩, fun defined => absurd rfl defined⟩
      (.inr fun a owned => by simp [PotRecord.countedOwner, PotRecord.empty] at owned)
  · exact sound

theorem State.serveAssign_pots_sound (s : State) (p tag owner : Nat) (sound : s.pots.Sound) :
    (s.serveAssign p tag owner).1.pots.Sound := by
  unfold State.serveAssign
  dsimp only
  split_ifs with refused outside present full
  · exact sound
  · exact sound
  · exact sound
  · exact sound
  · obtain ⟨-, defined, -, -⟩ := (State.identity_done_iff _ _ _ _).mp (not_not.mp refused)
    obtain ⟨low, high⟩ := (isNode_iff owner).mp (by simpa using outside)
    refine State.putPot_sound s p _ sound
      ⟨fun vacant => absurd vacant defined, fun _ => ⟨owner, rfl, low, high⟩⟩ (.inr fun a owned => ?_)
    have same : owner = a := by simpa [PotRecord.countedOwner, defined] using owned
    subst same
    exact not_le.mp full

/-! ### Every command and every step -/

theorem State.replyEnded_pots (s : State) : s.replyEnded.pots = s.pots := by
  rw [State.replyEnded_frame]

/-- The commands that write a field which the Pot Register keeps for itself: RESET, a report, a silence, a circuit change,
and the three requests of R6 to R11. -/
def writesLine : Instr → Bool
  | .reset | .potReport _ | .potSilence _ | .switchDone _ _ | .admitPot _ _ _ _ | .retirePot _ _ | .assignOwner _ _ _ =>
    true
  | _ => false

/-- Every other command keeps the lines of the Register (R2, R24). -/
theorem exec_keeps_line (c : Instr) (s t : State) (other : writesLine c = false) (done : exec c s = .next t) :
    t.pots.line = s.pots.line := by
  cases c <;> cases done
  case reset | potReport | potSilence | switchDone | admitPot | retirePot | assignOwner => cases other
  case dispatchCycle arbiterFirst =>
    rw [State.compareHead_line, State.cycleWork_line, State.dividerAdvanced_pots]
  case meteringTick shed => exact State.tick_line s shed
  case dayRollover | intervalClose | curtailmentExpiry =>
    split
    · exact State.tick_line s _
    · rfl
  case startHoldExpiry p =>
    dsimp only
    split
    · exact State.putPot_line s p _ rfl
    · rfl
  case escalation | settleExpiry | flowGraceExpiry | unitSilence | unitLoss | miss =>
    split <;> simp
  case permitExpiry | rampFailure | windowExpiry =>
    split
    · split <;> simp
    · rfl
  case turn | idleTime | fieldFrameGap | lmFrameRefused | rangeFrameNext | lmReplyEnd =>
    split <;> rfl
  case fieldFrameRefused =>
    dsimp only
    split
    · split <;> rfl
    · rfl
  case lmBreak | lmFrameGap | lmrxIdleReturn => rfl
  case quenchEnd | switchRequest | switchCancel | unitReport | pass =>
    refine State.fieldRequest_line s _ _ fun node t => ?_
    simp [State.answer]
  case readPotRange first count => exact congrArg PotRegister.line (State.takeRange_pots s first count)
  case loadTariff part final =>
    exact congrArg PotRegister.line (State.loadFrame_pots s _ fun t => State.serveLoadTariff_pots t part final)
  case readNodes | setTarget | readLine | readMeter | readPeriod | closePeriod | lockTariff | getAttention =>
    exact congrArg PotRegister.line (State.lineRequest_pots s _ fun _ => rfl)
  case readPot | defineUnit | removeUnit | tripUnit | restoreUnit | readUnit | addNode | dropNode | setParam | readParam |
      run | hold | resume | setClock | curtail | cancelCurtail | readTariff | ackAttention | setAttentionMask =>
    refine congrArg PotRegister.line (State.lineRequest_pots s _ fun t => ?_)
    simp

theorem State.potSilence_pots_sound (s t : State) (p : Nat) (sound : s.pots.Sound)
    (done : exec (.potSilence p) s = .next t) : t.pots.Sound := by
  cases done
  dsimp only
  split
  · next due =>
    have defined : (s.pot p).circuit ≠ .vacant := by
      simp only [State.potSilenceDue, Bool.and_eq_true] at due
      simpa using due.1.1
    exact State.putPot_sound_of_owner s p _ sound defined defined rfl
  · exact sound

theorem exec_pots_sound (c : Instr) (s t : State) (sound : s.pots.Sound) (done : exec c s = .next t) :
    t.pots.Sound := by
  cases c with
  | reset =>
    cases done
    exact PotRegister.reset_sound
  | potReport items =>
    cases done
    exact State.fieldRequest_pots_sound s _ _ sound fun node t h => State.takeItems_pots_sound node items t h
  | potSilence p => exact State.potSilence_pots_sound s t p sound done
  | switchDone p tag =>
    cases done
    exact State.fieldRequest_pots_sound s _ _ sound fun node t h => State.serveSwitchDone_pots_sound t node p tag h
  | admitPot p tag owner initial =>
    cases done
    exact State.lineRequest_pots_sound s _ sound fun t h => State.serveAdmit_pots_sound t p tag owner initial h
  | retirePot p tag =>
    cases done
    exact State.lineRequest_pots_sound s _ sound fun t h => State.serveRetire_pots_sound t p tag h
  | assignOwner p tag owner =>
    cases done
    exact State.lineRequest_pots_sound s _ sound fun t h => State.serveAssign_pots_sound t p tag owner h
  | _ => exact sound.of_line (exec_keeps_line _ s t rfl done)

/-- Settles O6: a step either ends a field reply, which leaves the Register alone, or runs a command. -/
theorem lineSumsAgreeWithTable : Obligations.LineSumsAgreeWithTable := by
  intro s t sound done
  cases front : s.pending with
  | nil =>
    rw [step_idle s front] at done
    cases done
    rw [State.replyEnded_pots]
    exact sound
  | cons c rest =>
    rw [step_waiting s c rest front] at done
    exact exec_pots_sound c (s.withPending rest) t sound done

end Sys2Proof.Machine
end

section
/-! PROOFS. What a report stores, and the items of a POT REPORT frame (R12 to R18). -/

namespace Sys2Proof.Machine

/-! ### What the watch leaves alone on a report (R29 to R36) -/

/-- The parts of the block that no report reaches. -/
structure State.SameMeterAndLinks (s t : State) : Prop where
  meter : t.meter = s.meter
  tariff : t.tariff = s.tariff
  field : t.field = s.field
  port : t.port = s.port

theorem State.SameMeterAndLinks.trans {s t u : State} (a : s.SameMeterAndLinks t) (b : t.SameMeterAndLinks u) :
    s.SameMeterAndLinks u :=
  ⟨b.meter.trans a.meter, b.tariff.trans a.tariff, b.field.trans a.field, b.port.trans a.port⟩

theorem State.SameLinks.meterAndLinks {s t : State} (a : s.SameLinks t) : s.SameMeterAndLinks t :=
  ⟨a.meter, a.tariff, a.field, a.port⟩

theorem State.putPot_meterAndLinks (s : State) (p : Nat) (r : PotRecord) : s.SameMeterAndLinks (s.putPot p r) :=
  ⟨rfl, rfl, rfl, rfl⟩

theorem State.cancelByEffect_meterAndLinks (s : State) (p : Nat) : s.SameMeterAndLinks (s.cancelByEffect p) := by
  unfold State.cancelByEffect
  split
  · rw [State.endSwitch_frame]
    exact ⟨rfl, rfl, rfl, rfl⟩
  · exact ⟨rfl, rfl, rfl, rfl⟩

theorem State.confirmEffect_meterAndLinks (s : State) (p : Nat) : s.SameMeterAndLinks (s.confirmEffect p) := by
  have placed : ∀ t : State, t.SameMeterAndLinks ((t.enterQuenchQueue p).raise .aeConfirmed p) := fun _ =>
    ⟨rfl, rfl, rfl, rfl⟩
  exact (((State.putPot_meterAndLinks s p _).trans (State.cancelByEffect_meterAndLinks _ p)).trans (placed _)).trans
    (State.grantEvaluation_links _).meterAndLinks

theorem State.releaseClaim_meterAndLinks (s : State) (p : Nat) : s.SameMeterAndLinks (s.releaseClaim p) := by
  unfold State.releaseClaim
  split
  · exact ⟨rfl, rfl, rfl, rfl⟩
  · refine State.SameMeterAndLinks.trans ?_ (State.grantEvaluation_links _).meterAndLinks
    rw [State.freeSlotOf_frame]
    exact ⟨rfl, rfl, rfl, rfl⟩
  · exact ⟨rfl, rfl, rfl, rfl⟩
  · exact ⟨rfl, rfl, rfl, rfl⟩

theorem State.endEffect_meterAndLinks (s : State) (p : Nat) : s.SameMeterAndLinks (s.endEffect p) :=
  (State.releaseClaim_meterAndLinks s p).trans (State.putPot_meterAndLinks _ p _)

theorem State.examineReport_meterAndLinks (s : State) (p : Nat) : s.SameMeterAndLinks (s.examineReport p) := by
  rcases State.examineReport_cases s p with h | ⟨r, h, -⟩ | h | h <;> rw [h]
  · exact ⟨rfl, rfl, rfl, rfl⟩
  · exact State.putPot_meterAndLinks s p r
  · exact State.confirmEffect_meterAndLinks s p
  · exact State.endEffect_meterAndLinks s p

/-- An accepted report keeps what it does not reach, whatever the watch decides (R15). -/
theorem State.acceptReport_meterAndLinks (s : State) (p v : Nat) : s.SameMeterAndLinks (s.acceptReport p v) := by
  unfold State.acceptReport
  dsimp only
  split
  · exact (State.putPot_meterAndLinks s p _).trans (State.examineReport_meterAndLinks _ p)
  · exact State.putPot_meterAndLinks s p _

/-- The lines of the Register after an accepted report are those after its steps 1 to 3 (R15). -/
theorem State.acceptReport_line (s : State) (p v : Nat) :
    (s.acceptReport p v).pots.line = (s.putPot p (s.reportedRecord (s.pot p) v)).pots.line := by
  unfold State.acceptReport
  dsimp only
  split
  · exact State.examineReport_line _ p
  · rfl

/-- A report of a pot that is not IN is its steps 1 and 2 only (R15). -/
theorem State.acceptReport_notIn (s : State) (p v : Nat) (notIn : (s.pot p).circuit ≠ .inCircuit) :
    s.acceptReport p v = s.putPot p { s.pot p with voltage := v, reportStamp := s.now, silent := false } := by
  simp [State.acceptReport, State.reportedRecord, notIn]

/-- R of the reported record (R17, R18). -/
theorem State.reportedRecord_resistance (s : State) (r : PotRecord) (v : Nat) :
    (s.reportedRecord r v).resistance =
      if r.circuit ≠ .inCircuit ∨ s.iMeas < s.params.iRmin then r.resistance
      else if v ≤ s.params.e0 then 0
      else min 1000000 ((v - s.params.e0) * 100000 / s.iMeas) := by
  by_cases into : r.circuit = .inCircuit <;> simp [State.reportedRecord, State.reportedResistance, into]

/-- The line sums after one write of a record that stays in its circuit state (R24). -/
theorem State.putPot_sums_of_circuit (s : State) (p : Nat) (r : PotRecord) (known : isPosition p = true)
    (circuit : r.circuit = (s.pot p).circuit) :
    let t := s.putPot p r
    t.pots.nIn = s.pots.nIn ∧ t.pots.nOut = s.pots.nOut ∧
      (r.circuit = .inCircuit → t.pots.sumR = s.pots.sumR + r.resistance - (s.pot p).resistance ∧
        t.pots.sumV = s.pots.sumV + r.voltage - (s.pot p).voltage) ∧
      (r.circuit ≠ .inCircuit → t.pots.sumR = s.pots.sumR ∧ t.pots.sumV = s.pots.sumV) := by
  obtain ⟨nIn, nOut, sumR, sumV⟩ := PotRegister.put_sums s.pots p r known
  simp only [State.putPot_pots, nIn, nOut, sumR, sumV]
  change r.circuit = (tget PotRecord.empty s.pots.table p).circuit at circuit
  refine ⟨?_, ?_, fun into => ?_, fun out => ?_⟩
  · simp [PotRecord.countIn, circuit]
  · simp [PotRecord.countOut, circuit]
  · rw [circuit] at into
    simp [PotRecord.shareR, PotRecord.shareV, circuit, into, State.pot]
  · rw [circuit] at out
    simp [PotRecord.shareR, PotRecord.shareV, circuit, out]

/-- Settles O10: the lines of the Register after the report are those of the one write of steps 1 to 3. -/
theorem acceptedReportStoresVoltageAndR : Obligations.AcceptedReportStoresVoltageAndR := by
  intro s p v low high
  have known : isPosition p = true := (isPosition_iff p).mpr ⟨low, high⟩
  have line := State.acceptReport_line s p v
  have own := (State.pot_line_congr line p).trans (congrArg PotRecord.line (State.pot_putPot_same s p _ known))
  have others : ∀ q, q ≠ p → ((s.acceptReport p v).pot q).line = (s.pot q).line := fun q differ =>
    (State.pot_line_congr line q).trans (congrArg PotRecord.line (State.pot_putPot_other s p q _ differ))
  obtain ⟨nIn, nOut, whenIn, whenOut⟩ :=
    State.putPot_sums_of_circuit s p (s.reportedRecord (s.pot p) v) known rfl
  have nIn' := (congrArg PotRegister.nIn line).trans nIn
  have nOut' := (congrArg PotRegister.nOut line).trans nOut
  have sumR := congrArg PotRegister.sumR line
  have sumV := congrArg PotRegister.sumV line
  obtain ⟨circuit, tag, owner, voltage, stamp, silent, resistance⟩ := (PotRecord.line_eq_iff _ _).mp own
  have rest := State.acceptReport_meterAndLinks s p v
  intro t r newR
  have resistance : (t.pot p).resistance = newR := resistance.trans (State.reportedRecord_resistance s r v)
  refine ⟨voltage, stamp, silent, resistance, circuit, tag, owner, nIn', nOut', ?_, ?_, rest.meter, rest.tariff,
    rest.field, rest.port, fun q differ => ?_⟩
  · intro into
    obtain ⟨writtenR, writtenV⟩ := whenIn into
    rw [State.reportedRecord_resistance] at writtenR
    exact ⟨sumV.trans writtenV, sumR.trans writtenR⟩
  · intro out
    obtain ⟨writtenR, writtenV⟩ := whenOut out
    have whole : t = s.putPot p { r with voltage := v, reportStamp := s.now, silent := false } :=
      State.acceptReport_notIn s p v out
    refine ⟨sumV.trans writtenV, sumR.trans writtenR, whole, ?_, fun q differ => ?_⟩
    · rw [whole]; rfl
    · rw [whole]; exact State.pot_putPot_other s p q _ differ
  · obtain ⟨circuit, tag, owner, voltage, stamp, silent, resistance⟩ := (PotRecord.line_eq_iff _ _).mp (others q differ)
    exact ⟨voltage, resistance, circuit, tag, owner, stamp, silent⟩

end Sys2Proof.Machine
end

section
/-! PROOFS. The items of a POT REPORT frame, and the sizes of the byte fields (R12, R14, R16, R198). -/

namespace Sys2Proof.Machine

open Sys2Proof.Claims

/-! ### Sizes (R198) -/

@[simp] theorem be_length (k n : Nat) : (be k n).length = k := by
  induction k with
  | zero => rfl
  | succ k ih => simp [be, ih]

@[simp] theorem currentBytes_length (current : Nat) : (currentBytes current).length = 2 :=
  be_length 2 _

/-- A field of the value 0 is that many zero bytes. -/
theorem be_zero (k : Nat) : be k 0 = List.replicate k 0 := by
  induction k with
  | zero => rfl
  | succ k ih => simp [be, ih, List.replicate_succ]

/-! ### The identity checks (R12) -/

/-- The status that the checks of R12 give: where they refuse, it is not DONE. -/
theorem State.gate_identity {α : Type} (s : State) (node : Option Nat) (p tag : Nat) (refused : ReqStatus → α) (passed : α) :
    gate s node p tag refused passed =
      if s.identity node p tag = .done then passed else refused (s.identity node p tag) := by
  have position : isPosition p = false ↔ p < 1 ∨ 384 < p := by
    rw [← Bool.not_eq_true, isPosition_iff]
    omega
  have named : node.isSome = true ↔ node ≠ none := Option.isSome_iff_ne_none
  unfold gate
  split
  · next outside =>
    have status : s.identity node p tag = .noRecord := by simp [State.identity, position.mpr outside]
    simp [status]
  next inside =>
  have known : isPosition p = true := by simpa using inside ∘ position.mp
  split
  · next vacant =>
    have status : s.identity node p tag = .noRecord := by simp [State.identity, vacant]
    simp [status]
  next defined =>
  split
  · next other =>
    have status : s.identity node p tag = .owner := by simp [State.identity, known, defined, named, other]
    simp [status]
  next owned =>
  split
  · next stale =>
    have status : s.identity node p tag = .stale := by
      simp only [State.identity, known, defined, named, owned]
      exact if_pos stale
    simp [status]
  · next fresh =>
    have status : s.identity node p tag = .done := by
      simp only [State.identity, known, defined, named, owned, fresh]
      rfl
    simp [status]

/-! ### POT REPORT (R14, R16) -/

theorem State.takeItems_length (node : Nat) (items : List ReportItem) (s : State) :
    (State.takeItems node items s).2.length = items.length := by
  induction items generalizing s with
  | nil => rfl
  | cons i rest ih => exact congrArg (· + 1) (ih _)

theorem State.itemBytes_length (s : State) (i : ReportItem) (status : ReqStatus) : (s.itemBytes i status).length = 9 := by
  unfold State.itemBytes
  dsimp only
  split <;> simp

theorem length_flatMap_const {α β : Type} (f : α → List β) (n : Nat) (size : ∀ a, (f a).length = n) (l : List α) :
    (l.flatMap f).length = n * l.length := by
  rw [List.length_flatMap, List.map_congr_left fun a _ => size a, List.map_const', List.sum_replicate, smul_eq_mul,
    Nat.mul_comm]

/-- One item after the checks of R12, and the rest of the frame after it. -/
theorem State.takeItems_cons (s : State) (node : Nat) (i : ReportItem) (rest : List ReportItem) :
    State.takeItems node (i :: rest) s =
      gate s (some node) i.position i.tag
        (fun status => ((State.takeItems node rest s).1, status :: (State.takeItems node rest s).2))
        ((State.takeItems node rest (s.acceptReport i.position i.voltage)).1,
          .done :: (State.takeItems node rest (s.acceptReport i.position i.voltage)).2) := by
  rw [State.gate_identity]
  by_cases passed : s.identity (some node) i.position i.tag = .done <;>
    simp [State.takeItems, State.takeItem, passed]

/-- A field request in a window held by a node of a kind that may send it (R187, R189). -/
theorem State.fieldRequest_of_window {s : State} {turn : Turn} {kind : NodeKind} (window : Window s turn kind)
    (kinds : List NodeKind) (allowed : kind ∈ kinds) (serve : Nat → State → State × Reply) :
    s.fieldRequest kinds serve =
      (serve turn.address s.nodeAnswered).1.sendFieldReply (serve turn.address s.nodeAnswered).2 := by
  obtain ⟨awaited, held⟩ := window
  exact State.fieldRequest_taken s kinds serve turn awaited (by simpa [held] using allowed)

/-- The fields of one item, written out (R16, R198). -/
theorem State.itemBytes_eq (s : State) (i : ReportItem) (status : ReqStatus) :
    s.itemBytes i status =
      be 2 i.position ++ be 1 status.code ++
        (if status = .done then
          be 1 (s.pot i.position).circuit.code ++ be 1 (s.pot i.position).ae.code ++
            be 2 (s.slotOrPlace i.position) ++ be 1 (s.pot i.position).phaseCode ++
            be 1 (s.pot i.position).lastSwitch.code
        else [0, 0, 0, 0, 0, 0]) := by
  unfold State.itemBytes
  dsimp only
  split <;> simp [be_zero]

/-- Settles O9, with the frame's items taken one by one. -/
theorem potReportTakesItemsInOrder : Obligations.PotReportTakesItemsInOrder := by
  refine ⟨fun s turn items window _ => ?_, State.takeItems_cons⟩
  have taken := State.fieldRequest_of_window window [.potNode] (by simp) fun node t => t.servePotReport node items
  have sizes : (State.takeItems turn.address items s.nodeAnswered).2.length = items.length :=
    State.takeItems_length _ _ _
  refine ⟨_, _, _, rfl, sizes, ?_, rfl, ?_⟩
  · refine congrArg Host.Outcome.next (taken.trans ?_)
    simp only [State.servePotReport, fieldAnswered, Reply.served, frameStatus, List.contains_iff_mem, State.itemBytes_eq]
  · simp only [← State.itemBytes_eq, List.length_append, be_length, currentBytes_length]
    rw [length_flatMap_const _ 9 fun _ => State.itemBytes_length _ _ _, List.length_zip, sizes, Nat.min_self]

end Sys2Proof.Machine
end

section
/-! PROOFS. The reply to READ POT RANGE (R27, R196). -/

namespace Sys2Proof.Machine

open Sys2Proof.Claims

@[simp] theorem State.potImage_length (s : State) (p : Nat) : (s.potImage p).length = 22 := by
  simp [State.potImage]

theorem rangeGood_iff (first count : Nat) :
    rangeGood first count = true ↔ 1 ≤ first ∧ first ≤ 384 ∧ 1 ≤ count ∧ first + count ≤ 385 := by
  have parts : rangeGood first count = true ↔ isPosition first = true ∧ 0 < count ∧ first + count ≤ 385 := by
    simp [rangeGood, potCount, and_assoc]
  rw [parts, isPosition_iff]
  omega

/-- Every frame of the reply, in its order: the first and those after it. -/
def State.rangeFrames (s : State) (first count : Nat) : List Reply :=
  (List.range ((count + 10) / 11)).map (s.rangeFrame first count)

theorem State.rangeFrames_eq (s : State) (first count : Nat) (counted : 1 ≤ count) :
    s.rangeFrame first count 0 :: s.laterRangeFrames first count = s.rangeFrames first count := by
  obtain ⟨m, frames⟩ : ∃ m, (count + 10) / 11 = m + 1 := ⟨(count + 10) / 11 - 1, by omega⟩
  simp [State.rangeFrames, State.laterRangeFrames, frames, List.range_succ_eq_map]

theorem State.rangeFrame_payload_length (s : State) (first count k : Nat) :
    (s.rangeFrame first count k).payload.length = 22 * min 11 (count - 11 * k) := by
  rw [State.rangeFrame, length_flatMap_const _ 22 fun p => State.potImage_length s p, List.length_range']

/-- The images of the first frames, put together: those of the positions from the first on, 11 to a frame. -/
theorem State.flatMap_rangeFrame (s : State) (first count n : Nat) :
    ((List.range n).map (s.rangeFrame first count)).flatMap Reply.payload =
      (List.range' first (min count (11 * n))).flatMap s.potImage := by
  induction n with
  | zero => simp
  | succ n ih =>
    have split : List.range' first (min count (11 * (n + 1))) =
        List.range' first (min count (11 * n)) ++ List.range' (first + 11 * n) (min 11 (count - 11 * n)) := by
      by_cases more : 11 * n < count
      · have here : min count (11 * n) = 11 * n := by omega
        have both : min count (11 * (n + 1)) = 11 * n + min 11 (count - 11 * n) := by omega
        rw [here, both, ← List.range'_append_1]
      · have here : min count (11 * n) = count := by omega
        have both : min count (11 * (n + 1)) = count := by omega
        have last : min 11 (count - 11 * n) = 0 := by omega
        simp [here, both, last]
    rw [List.range_succ, List.map_append, List.flatMap_append, ih, split, List.flatMap_append]
    simp [State.rangeFrame]

/-- The frames but the last, and the last (R196). -/
theorem State.rangeFrames_split (s : State) (first count : Nat) (counted : 1 ≤ count) :
    s.rangeFrames first count =
      (List.range ((count - 1) / 11)).map (s.rangeFrame first count) ++ [s.rangeFrame first count ((count - 1) / 11)] := by
  have frames : (count + 10) / 11 = (count - 1) / 11 + 1 := by omega
  simp [State.rangeFrames, frames, List.range_succ]

/-- Settles O8: the reply is `State.rangeFrames`, whose payloads put together are the images of the range. -/
theorem rangeReplyCapturesImages : Obligations.RangeReplyCapturesImages := by
  intro s first count takes
  have served : exec (.readPotRange first count) s = .next (s.takeRange first count) := rfl
  refine ⟨fun bad => ?_, fun good => ?_⟩
  · have refused : rangeGood first count = false := by
      rw [← Bool.not_eq_true, rangeGood_iff]
      omega
    rw [served]
    simp [State.takeRange, takes, refused, answered, Reply.served]
  · have counted : 1 ≤ count := good.2.2.1
    refine ⟨s.rangeFrame first count 0, s.laterRangeFrames first count, ?_, ?_⟩
    · rw [served]
      simp only [State.takeRange, takes, (rangeGood_iff first count).mpr good, if_true]
      rfl
    rw [State.rangeFrames_eq s first count counted]
    refine ⟨by simp [State.rangeFrames], fun r member => ?_, ?_, fun r last => ?_, ?_⟩
    · obtain ⟨k, -, rfl⟩ := List.mem_map.mp member
      refine ⟨rfl, rfl, ?_⟩
      rw [State.rangeFrame_payload_length]
      omega
    · rw [State.rangeFrames_split s first count counted, List.dropLast_concat, List.all_eq_true]
      intro r member
      obtain ⟨k, inside, rfl⟩ := List.mem_map.mp member
      have before : k < (count - 1) / 11 := List.mem_range.mp inside
      have continued : (s.rangeFrame first count k).continued = true := by
        simp only [State.rangeFrame, decide_eq_true_eq]
        omega
      rw [continued, State.rangeFrame_payload_length, Bool.true_and, beq_iff_eq]
      omega
    · rw [State.rangeFrames_split s first count counted, List.getLast?_concat, Option.some.injEq] at last
      subst last
      refine ⟨?_, fun empty => ?_⟩
      · simp only [State.rangeFrame, decide_eq_false_iff_not]
        omega
      · have size := State.rangeFrame_payload_length s first count ((count - 1) / 11)
        rw [empty, List.length_nil] at size
        omega
    · have all : min count (11 * ((count + 10) / 11)) = count := by omega
      rw [State.rangeFrames, State.flatMap_rangeFrame, all]

end Sys2Proof.Machine
end

section
/-! PROOFS. Reset, and the requests of the line master that change a pot record (R3, R6 to R12). -/

namespace Sys2Proof.Machine

open Sys2Proof.Claims

/-! ### Reset (R3) -/

theorem State.reset_pot (p : Nat) : State.reset.pot p = PotRecord.empty :=
  tget_replicate 384 PotRecord.empty p

theorem State.reset_unit (u : Nat) : State.reset.unit u = UnitRecord.empty :=
  tget_replicate 8 UnitRecord.empty u

theorem State.reset_slot (k : Nat) : State.reset.slot k = none :=
  tget_replicate 4 none k

theorem State.reset_source (c : Nat) : State.reset.attention.source c = SourceRecord.clear :=
  tget_replicate 12 SourceRecord.clear c

/-- A frame that either link refuses, and a break or a gap, leave the Pot Register alone (R3). -/
theorem exec_linkEvent_pots (c : Instr) (s : State)
    (event : c = .lmBreak ∨ c = .lmFrameGap ∨ c = .fieldFrameGap ∨ (∃ f, c = .lmFrameRefused f) ∨
      ∃ f, c = .fieldFrameRefused f) :
    ∃ t, exec c s = .next t ∧ t.pots = s.pots := by
  rcases event with rfl | rfl | rfl | ⟨f, rfl⟩ | ⟨f, rfl⟩ <;> refine ⟨_, rfl, ?_⟩
  · rfl
  · rfl
  · split <;> rfl
  · split <;> rfl
  · split
    · dsimp only
      split <;> rfl
    · rfl

/-- Settles O3: the tables after reset are filled with their reset entries, and no event of either link writes a record. -/
theorem resetEmptiesPotTable : Obligations.ResetEmptiesPotTable := by
  refine ⟨fun s => ⟨_, rfl, fun p _ _ => ?_, rfl, rfl, rfl, rfl, fun a _ _ => ?_⟩, exec_linkEvent_pots⟩
  · change { State.reset.pot p with confirmStamp := none } = _
    rw [State.reset_pot]
    rfl
  · exact tget_replicate 62 0 a

/-! ### The state after reset is safe -/

theorem AttentionUnit.reset_sound : State.reset.attention.Sound := by
  have clear : ∀ c, State.reset.attention.source c = ⟨false, 0, 0⟩ := State.reset_source
  constructor
  case line => simp [clear]; rfl
  case pendingCount => simp [clear]
  case clearCount => simp [clear]
  case noDetail => simp [clear]

theorem State.reset_queuesSound : State.reset.QueuesSound := by
  have quench : State.reset.quench.queue = [] := rfl
  have switching : State.reset.switching.queue = [] := rfl
  constructor
  case records =>
    intro p _
    rw [State.reset_pot]
    constructor <;> simp [PotRecord.empty]
  all_goals simp [quench, switching, State.reset_pot, State.reset_slot, PotRecord.empty]

theorem State.reset_unitsSound : State.reset.UnitsSound := by
  constructor
  case records =>
    intro u _
    rw [State.reset_unit]
    constructor <;> simp [UnitRecord.empty, UnitRecord.serving]
  case nodes => simp [State.reset_unit, UnitRecord.empty]

theorem State.reset_dispatchSound : State.reset.DispatchSound := by
  have mode : State.reset.current.mode = .adopt := rfl
  constructor <;> simp [mode]

theorem TariffTable.atReset_valid : TariffTable.atReset.Valid := by
  have schedule : ScheduleValid 900 1 [⟨0, 1⟩] := by
    constructor <;> simp [daySeconds]
  constructor
  case working | rest => exact schedule
  all_goals simp [TariffTable.atReset, daySeconds, topLimit]

theorem State.reset_meterSound : State.reset.MeterSound := by
  have band : ∀ b, PeriodFigures.empty.band b = ⟨0, 0⟩ := tget_replicate 4 (⟨0, 0⟩ : BandEnergy)
  have figures : ∀ b, State.reset.meter.period.band b = ⟨0, 0⟩ ∧ State.reset.meter.closed.figures.band b = ⟨0, 0⟩ :=
    fun b => ⟨band b, band b⟩
  constructor
  case active => exact TariffTable.atReset_valid
  case staged => exact fun t staged => nomatch staged
  case residues => simp [figures]
  case energies => simp [figures]
  case governorOff => exact fun _ => rfl
  all_goals decide

theorem FieldLink.reset_sound : State.reset.field.Sound := by
  constructor <;> simp [State.reset]

/-- Settles O5, one agreement of Safety.lean at a time. -/
theorem resetIsSafe : Obligations.ResetIsSafe where
  attention := AttentionUnit.reset_sound
  pots := PotRegister.reset_sound
  queues := State.reset_queuesSound
  order := List.Pairwise.nil
  units := State.reset_unitsSound
  dispatch := State.reset_dispatchSound
  meter := State.reset_meterSound
  field := FieldLink.reset_sound
  port := fun due => absurd rfl due

/-! ### Requests of the line master (R165, R194) -/

/-- The state after a serving whose one reply frame is begun. -/
def State.replied (served : State × Reply) : State :=
  served.1.sendFrames served.2 []

@[simp] theorem State.replied_answer (s : State) (status : ReqStatus) :
    State.replied (s.answer status) = answered s status [] := rfl

theorem State.lineRequest_replied {s : State} (takes : s.port.takes = true) (serve : State → State × Reply) :
    s.lineRequest serve = State.replied (serve s.abandonLoad) :=
  State.lineRequest_taken s serve takes

/-- The initial state that a code other than 1 and 2 names: none (R198). -/
theorem initialOf_isNone_iff (initial : Nat) : (initialOf initial).isNone = true ↔ initial ≠ 1 ∧ initial ≠ 2 := by
  unfold initialOf
  split <;> simp_all

theorem initialOf_inCircuit_iff (initial : Nat) : initialOf initial = some .inCircuit ↔ initial = 1 := by
  unfold initialOf
  split <;> simp_all

theorem isNode_eq_false_iff (a : Nat) : isNode a = false ↔ a < 1 ∨ 62 < a := by
  rw [← Bool.not_eq_true, isNode_iff]
  omega

theorem isPosition_eq_false_iff (p : Nat) : isPosition p = false ↔ p < 1 ∨ 384 < p := by
  rw [← Bool.not_eq_true, isPosition_iff]
  omega

/-- The checks of ADMIT POT in their order (R8). -/
theorem State.admitStatus_eq (s : State) (p tag owner initial : Nat) :
    s.admitStatus p tag owner initial =
      if p < 1 ∨ 384 < p then .noRecord
      else if (s.pot p).circuit ≠ .vacant then .state
      else if tag = 0 ∨ tag = (s.pot p).tag ∨ (owner < 1 ∨ 62 < owner) ∨ (initial ≠ 1 ∧ initial ≠ 2) then .param
      else if initial = 1 ∧ s.current.mode ≠ .adopt then .state
      else if 8 ≤ s.ownerCount owner then .full
      else .done := by
  simp only [State.admitStatus, Bool.not_eq_eq_eq_not, Bool.not_true, isPosition_eq_false_iff, isNode_eq_false_iff,
    initialOf_isNone_iff, initialOf_inCircuit_iff]

/-- What a request with a status does: its effect where the status is DONE, and otherwise the reply with the status alone. -/
def State.answeredBy (refusing served : State) (status : ReqStatus) : State :=
  if status = .done then served else answered refusing status []

@[simp] theorem State.answeredBy_done (u v : State) : u.answeredBy v .done = v := rfl

theorem State.answeredBy_refused (u v : State) (status : ReqStatus) (refused : status ≠ .done) :
    u.answeredBy v status = answered u status [] :=
  if_neg refused

/-- The checks of ASSIGN OWNER after those of R12 (R6). -/
theorem State.serveAssign_passed {s : State} {p tag owner : Nat} (passed : s.identity none p tag = .done) :
    s.serveAssign p tag owner =
      if owner < 1 ∨ 62 < owner then s.answer .param
      else if (s.pot p).owner = some owner then s.answer .done
      else if 8 ≤ s.ownerCount owner then s.answer .full
      else (s.putPot p { s.pot p with owner := some owner }).answer .done := by
  simp only [State.serveAssign, passed, ne_eq, not_true_eq_false, if_false, Bool.not_eq_eq_eq_not, Bool.not_true,
    isNode_eq_false_iff]

theorem State.serveAssign_refused {s : State} {p tag owner : Nat} (refused : s.identity none p tag ≠ .done) :
    s.serveAssign p tag owner = s.answer (s.identity none p tag) :=
  if_pos refused

/-- ADMIT POT at a receiver that takes frames: answered with the status of its checks, and DONE with the new record. -/
theorem State.admitPot_answered {s : State} (takes : s.port.takes = true) (p tag owner initial : Nat) :
    s.lineRequest (fun t => t.serveAdmit p tag owner initial) =
      s.abandonLoad.answeredBy
        (answered (s.abandonLoad.putPot p (if initial = 1 then s.admittedIn tag owner else s.admittedOut tag owner))
          .done [])
        (s.admitStatus p tag owner initial) := by
  have status : s.abandonLoad.admitStatus p tag owner initial = s.admitStatus p tag owner initial := rfl
  rw [State.lineRequest_replied takes]
  simp only [State.serveAdmit, status, initialOf_inCircuit_iff, State.answeredBy]
  split <;> rfl

theorem State.retirePot_answered {s : State} (takes : s.port.takes = true) (p tag : Nat) :
    s.lineRequest (fun t => t.serveRetire p tag) =
      s.abandonLoad.answeredBy
        (answered (s.abandonLoad.putPot p { PotRecord.empty with tag := (s.pot p).tag }) .done [])
        (s.retireStatus p tag) := by
  have status : s.abandonLoad.retireStatus p tag = s.retireStatus p tag := rfl
  rw [State.lineRequest_replied takes]
  simp only [State.serveRetire, status, State.answeredBy]
  split <;> rfl

/-- RETIRE POT and its checks after those of R12, in their order (R11). -/
theorem exec_retirePot (s : State) (p tag : Nat) (takes : s.port.takes = true) :
    exec (.retirePot p tag) s = .next (
      let u := s.abandonLoad
      gate s none p tag (fun status => answered u status [])
        (if (s.pot p).circuit = .inCircuit then answered u .state []
        else if (s.pot p).switch ≠ none then answered u .state []
        else answered (u.putPot p { PotRecord.empty with tag := (s.pot p).tag }) .done [])) := by
  refine congrArg Host.Outcome.next ((State.retirePot_answered takes p tag).trans ?_)
  dsimp only
  rw [State.gate_identity, State.retireStatus]
  by_cases passed : s.identity none p tag = .done
  · rw [if_neg (not_not.mpr passed), if_pos passed]
    simp only [apply_ite (State.answeredBy _ _), Option.isSome_iff_ne_none]
    rfl
  · rw [if_pos passed, if_neg passed, State.answeredBy_refused _ _ _ passed]

/-- ASSIGN OWNER and its checks after those of R12, in their order (R5, R6). -/
theorem exec_assignOwner (s : State) (p tag owner : Nat) (takes : s.port.takes = true) :
    exec (.assignOwner p tag owner) s = .next (
      let u := s.abandonLoad
      gate s none p tag (fun status => answered u status [])
        (if owner < 1 ∨ 62 < owner then answered u .param []
        else if (s.pot p).owner = some owner then answered u .done []
        else if 8 ≤ s.ownerCount owner then answered u .full []
        else answered (u.putPot p { s.pot p with owner := some owner }) .done [])) := by
  refine congrArg Host.Outcome.next ((State.lineRequest_replied takes _).trans ?_)
  dsimp only
  rw [State.gate_identity]
  by_cases passed : s.identity none p tag = .done
  · rw [if_pos passed, State.serveAssign_passed (s := s.abandonLoad) passed]
    simp only [apply_ite State.replied]
    rfl
  · rw [if_neg passed, State.serveAssign_refused (s := s.abandonLoad) passed]
    rfl

/-- Settles O7: each request is answered with the status of its checks, which stand in the order of R8, R11 and R6. -/
theorem admitRetireAndAssign : Obligations.AdmitRetireAndAssign := by
  refine ⟨fun s p tag owner initial takes => ?_, fun s p tag owner takes =>
    ⟨exec_retirePot s p tag takes, exec_assignOwner s p tag owner takes⟩⟩
  refine congrArg Host.Outcome.next ((State.admitPot_answered takes p tag owner initial).trans ?_)
  dsimp only
  simp only [State.admitStatus_eq, apply_ite (State.answeredBy _ _)]
  split
  · rfl
  split
  · rfl
  split
  · rfl
  next codes =>
  split
  · rfl
  split
  · rfl
  split
  · next into =>
    rw [if_neg (by omega)]
    rfl
  · next out =>
    rw [if_pos (by omega)]
    rfl

end Sys2Proof.Machine
end

section
/-! PROOFS. The examinations of a pot record or a quench slot after an advance (R19, R31, R37, R55, R56). -/

namespace Sys2Proof.Machine

open Sys2Proof.Claims

/-- The start hold as the statements write it (R31). -/
theorem PotRecord.held_eq_holdRuns (r : PotRecord) (now : Nat) : held r now = r.holdRuns now := by
  unfold held PotRecord.holdRuns
  cases r.startHoldEnd <;> rfl

theorem AeState.confirmed_iff (a : AeState) : a.confirmed = true ↔ a = .waiting ∨ a = .quenching ∨ a = .settling := by
  cases a <;> simp [AeState.confirmed]

theorem State.potSilenceDue_iff (s : State) (p : Nat) :
    s.potSilenceDue p = true ↔ (s.pot p).circuit ≠ .vacant ∧ (s.pot p).silent = false ∧
      s.meter.atAdvance.tPotSilent < age s.meter.lineSeconds (s.pot p).reportStamp := by
  rw [← State.now]
  simp [State.potSilenceDue, and_assoc]

theorem State.escalationDue_iff (s : State) (p : Nat) :
    s.escalationDue p = true ↔
      ((s.pot p).ae = .waiting ∨ (s.pot p).ae = .quenching ∨ (s.pot p).ae = .settling) ∧
        (s.pot p).aeClass = .normal ∧ (s.pot p).confirmStamp ≠ some s.meter.lineSeconds ∧
        (s.pot p).startStamp ≠ none ∧ s.meter.atAdvance.tEsc ≤ s.startAge p := by
  rw [← State.now]
  simp [State.escalationDue, AeState.confirmed_iff, and_assoc, Option.isSome_iff_ne_none]

theorem State.settleDue_iff {s : State} {p stamp : Nat} (settling : (s.pot p).ae = .settling)
    (since : (s.pot p).settleStamp = some stamp) :
    s.settleDue p = true ↔ s.meter.atAdvance.tSettle ≤ age s.meter.lineSeconds stamp := by
  rw [← State.now]
  simp [State.settleDue, settling, since]

theorem State.settleDue_otherwise {s : State} {p : Nat} (other : (s.pot p).ae ≠ .settling) : s.settleDue p = false := by
  unfold State.settleDue
  split
  · next settling _ => exact absurd settling other
  · rfl

theorem State.permitDue_iff {s : State} {k p stamp : Nat} (held : s.slot k = some ⟨p, stamp⟩) :
    s.permitDue k = true ↔ s.meter.atAdvance.tQuench ≤ age s.meter.lineSeconds stamp := by
  rw [← State.now]
  simp [State.permitDue, held]

/-- POT_SILENCE (R19). -/
theorem exec_potSilence (s : State) (p : Nat) :
    exec (.potSilence p) s = .next (
      if (s.pot p).circuit ≠ .vacant ∧ (s.pot p).silent = false ∧
          s.meter.atAdvance.tPotSilent < age s.meter.lineSeconds (s.pot p).reportStamp then
        (s.putPot p { s.pot p with silent := true }).raise .potSilent p
      else s) := by
  simp only [← State.potSilenceDue_iff]
  rfl

/-- START_HOLD_EXPIRY (R31). -/
theorem exec_startHoldExpiry (s : State) (p : Nat) :
    exec (.startHoldExpiry p) s = .next (
      if (s.pot p).startHoldEnd ≠ none ∧ held (s.pot p) s.meter.lineSeconds = false then
        s.putPot p { s.pot p with startHoldEnd := none }
      else s) := by
  simp only [PotRecord.held_eq_holdRuns, ← Option.isSome_iff_ne_none, ← Bool.not_eq_true']
  rfl

/-- ESCALATION (R37). -/
theorem exec_escalation (s : State) (p : Nat) :
    exec (.escalation p) s = .next (
      let raised := (s.putPot p { s.pot p with aeClass := .escalated }).raise .aeEscalated p
      if ((s.pot p).ae = .waiting ∨ (s.pot p).ae = .quenching ∨ (s.pot p).ae = .settling) ∧
          (s.pot p).aeClass = .normal ∧ (s.pot p).confirmStamp ≠ some s.meter.lineSeconds ∧
          (s.pot p).startStamp ≠ none ∧ s.meter.atAdvance.tEsc ≤ s.startAge p then
        (if (s.pot p).ae = .waiting then ((raised.leaveQuenchQueue p).enterQuenchQueue p).grantEvaluation else raised)
      else s) := by
  simp only [← State.escalationDue_iff]
  rfl

/-- SETTLE_EXPIRY of a SETTLING pot (R55). -/
theorem exec_settleExpiry (s : State) (p stamp : Nat) (settling : (s.pot p).ae = .settling)
    (since : (s.pot p).settleStamp = some stamp) :
    exec (.settleExpiry p) s = .next (
      if s.meter.atAdvance.tSettle ≤ age s.meter.lineSeconds stamp then
        ((s.putPot p { s.pot p with ae := .waiting, aeClass := .escalated, settleStamp := none }).enterQuenchQueue
          p).grantEvaluation
      else s) := by
  simp only [← State.settleDue_iff settling since]
  rfl

/-- PERMIT_EXPIRY of a HELD slot (R56). -/
theorem exec_permitExpiry (s : State) (k p stamp : Nat) (held : s.slot k = some ⟨p, stamp⟩) :
    exec (.permitExpiry k) s = .next (
      if s.meter.atAdvance.tQuench ≤ age s.meter.lineSeconds stamp then
        ((((s.putSlot k none).putPot p
          { s.pot p with
            ae := .waiting, slot := none, overruns := min ((s.pot p).overruns + 1) 255 }).raise .quenchOverrun
          p).enterQuenchQueue p).grantEvaluation
      else s) := by
  simp only [← State.permitDue_iff held]
  simp only [exec, execPermitExpiry, held]
  rfl

/-- Settles O14: each examination acts exactly where its limit has run out. -/
theorem timersExamineOneRecord : Obligations.TimersExamineOneRecord := by
  refine ⟨fun s p => ⟨exec_potSilence s p, exec_startHoldExpiry s p, exec_escalation s p⟩, exec_settleExpiry,
    fun s p other => ?_, exec_permitExpiry, fun s k free => ?_⟩
  · simp [exec, execSettleExpiry, State.settleDue_otherwise other]
  · simp [exec, execPermitExpiry, free]

end Sys2Proof.Machine
end

section
/-! PROOFS. The reading requests and the images they give (R16, R26, R100, R132, R148, R159, R184, R198). -/

namespace Sys2Proof.Machine

open Sys2Proof.Claims

/-! ### The words of the statements and those of the model -/

theorem bit_eq_flagBit (b : Bool) (n : Nat) : bit b n = flagBit b n := rfl

theorem bit_zero_eq_yesNo (b : Bool) : bit b 0 = yesNo b := rfl

theorem shownAge_eq_ageField (now : Nat) : shownAge now = ageField now :=
  funext fun _ => rfl

theorem PotRecord.switchCode_eq_switchByte (r : PotRecord) : switchCode r.switch = r.switchByte := by
  unfold switchCode PotRecord.switchByte
  cases r.switch <;> rfl

theorem periodBytes_eq_bytes (f : PeriodFigures) : periodBytes f = f.bytes := by
  simp [periodBytes, PeriodFigures.bytes]

/-! ### Sizes (R198) -/

@[simp] theorem State.unitImage_length (s : State) (u : Nat) : (s.unitImage u).length = 27 := by
  simp [State.unitImage]

@[simp] theorem State.slotBytes_length (s : State) (k : Nat) : (s.slotBytes k).length = 5 := by
  unfold State.slotBytes
  split <;> simp

@[simp] theorem State.headBytes_length (s : State) : s.headBytes.length = 5 := by
  unfold State.headBytes
  split <;> simp

@[simp] theorem State.lineImage_length (s : State) : s.lineImage.length = 67 := by
  unfold State.lineImage
  simp only [Limits.bytes, List.length_append, be_length, currentBytes_length, State.slotBytes_length,
    State.headBytes_length]

@[simp] theorem State.curtailmentBytes_length (s : State) : s.curtailmentBytes.length = 9 := by
  unfold State.curtailmentBytes
  split <;> simp

@[simp] theorem State.meterImage_length (s : State) : s.meterImage.length = 69 := by
  unfold State.meterImage
  simp only [List.length_append, be_length, State.curtailmentBytes_length]

@[simp] theorem PeriodFigures.bytes_length (f : PeriodFigures) : f.bytes.length = 38 := by
  simp [PeriodFigures.bytes]

@[simp] theorem State.periodImage_length (s : State) : s.periodImage.length = 83 := by
  simp [State.periodImage]

@[simp] theorem FieldLink.image_length (f : FieldLink) : f.image.length = 2 + 3 * f.ring.length := by
  have entries : (f.ring.flatMap RingEntry.bytes).length = 3 * f.ring.length :=
    length_flatMap_const _ 3 (fun e => by simp [RingEntry.bytes]) f.ring
  simp only [FieldLink.image, List.length_append, be_length, entries]

/-! ### The reading requests -/

theorem exec_readPot (s : State) (p : Nat) (takes : s.port.takes = true) :
    exec (.readPot p) s = .next
      (if p < 1 ∨ 384 < p then answered s.abandonLoad .noRecord [] else answered s.abandonLoad .done (s.potImage p)) := by
  refine congrArg Host.Outcome.next ((State.lineRequest_replied takes _).trans ?_)
  split
  · next outside => simp [State.serveReadPot, (isPosition_eq_false_iff p).mpr outside]
  · next inside =>
    have known : isPosition p = true := (isPosition_iff p).mpr (by omega)
    simp only [State.serveReadPot, known, if_true]
    rfl

theorem exec_readUnit (s : State) (u : Nat) (takes : s.port.takes = true) :
    exec (.readUnit u) s = .next
      (if u < 1 ∨ 8 < u then answered s.abandonLoad .param [] else answered s.abandonLoad .done (s.unitImage u)) := by
  refine congrArg Host.Outcome.next ((State.lineRequest_replied takes _).trans ?_)
  split
  · next outside =>
    have unknown : isUnit u = false := by
      rw [← Bool.not_eq_true, isUnit_iff]
      omega
    simp [State.serveReadUnit, unknown]
  · next inside =>
    have known : isUnit u = true := (isUnit_iff u).mpr (by omega)
    simp only [State.serveReadUnit, known, if_true]
    rfl

/-! ### The quench slot or queue position (R16) -/

theorem State.slotOrPlace_quenching {s : State} {p k : Nat} (quenching : (s.pot p).ae = .quenching)
    (named : (s.pot p).slot = some k) : s.slotOrPlace p = k := by
  simp [State.slotOrPlace, quenching, named]

theorem State.slotOrPlace_waiting {s : State} {p : Nat} {front back : List Nat} (waiting : (s.pot p).ae = .waiting)
    (queue : s.quench.queue = front ++ p :: back) (ahead : p ∉ front) : s.slotOrPlace p = front.length + 1 := by
  simp [State.slotOrPlace, waiting, State.queuePosition, queue, List.idxOf_append_of_notMem ahead]

theorem State.slotOrPlace_other {s : State} {p : Nat} (notQuenching : (s.pot p).ae ≠ .quenching)
    (notWaiting : (s.pot p).ae ≠ .waiting) : s.slotOrPlace p = 0 := by
  unfold State.slotOrPlace
  split
  · next quenching => exact absurd quenching notQuenching
  · next waiting => exact absurd waiting notWaiting
  · rfl

/-- Settles O56: the requests, the images field by field, and the slot or queue position of R16. The parts of an image that
may be absent are compared case by case. -/
theorem readsGiveTheirRecords : Obligations.ReadsGiveTheirRecords := by
  refine ⟨fun s p u takes => ?_, fun s p => ?_, fun s p => ⟨fun k => State.slotOrPlace_quenching,
    fun front back => State.slotOrPlace_waiting, State.slotOrPlace_other⟩, fun s u => ?_, fun s => ?_, fun s => ?_,
    fun s => ?_, fun s => ?_⟩
  · have read : ∀ image : State → List Byte,
        s.lineRequest (fun t => (t, Reply.served .done (image t))) =
          answered s.abandonLoad .done (image s.abandonLoad) := fun image => State.lineRequest_replied takes _
    exact ⟨exec_readPot s p takes, exec_readUnit s u takes, congrArg Host.Outcome.next (read fun t => t.field.image),
      congrArg Host.Outcome.next (read State.lineImage), congrArg Host.Outcome.next (read State.meterImage),
      congrArg Host.Outcome.next (read State.periodImage), State.potImage_length s p, State.unitImage_length s u,
      State.lineImage_length s, State.meterImage_length s, State.periodImage_length s, FieldLink.image_length s.field⟩
  · dsimp only
    rw [PotRecord.held_eq_holdRuns, PotRecord.switchCode_eq_switchByte]
    rfl
  · dsimp only
    unfold State.unitImage
    dsimp only
    cases lost : (s.unit u).flowLossStamp <;>
      simp only [optionalAge, bit_eq_flagBit, shownAge_eq_ageField, UnitRecord.flagsByte, lost]
  · unfold FieldLink.image FieldLink.turnAddress
    cases s.field.turn <;> rfl
  · intro slot head record
    have slots : ∀ k, s.slotBytes k = slot k := fun k => by
      unfold State.slotBytes
      simp only [slot]
      cases s.slot k <;> rfl
    have headed : s.headBytes = be 2 (head.getD 0) ++ be 1 (switchCode record) ++
        be 2 (match record with | some w => shownAge s.now w.stamp | none => 0) := by
      unfold State.headBytes
      cases queue : s.switching.queue with
      | nil =>
        simp only [record, head, queue]
        rfl
      | cons p rest =>
        simp only [record, head, queue, List.head?_cons, Option.bind_some, Option.getD_some,
          PotRecord.switchCode_eq_switchByte]
        cases (s.pot p).switch <;> rfl
    unfold State.lineImage Limits.bytes
    rw [slots, slots, slots, slots, headed]
    simp only [List.append_assoc] <;> rfl
  · dsimp only
    unfold State.meterImage State.curtailmentBytes
    cases s.meter.curtailment with
    | none =>
      simp only [bit_zero_eq_yesNo, be_zero]
      rfl
    | some c => rfl
  · rw [periodBytes_eq_bytes, periodBytes_eq_bytes]
    rfl

end Sys2Proof.Machine
end

section
/-! PROOFS. One record written twice, and the reports that change at most the pot's own watch fields (R15, R29 to R32,
R35). -/

namespace Sys2Proof.Machine

open Sys2Proof.Claims

/-! ### One record written twice (R24) -/

theorem tput_tput {α : Type} {n : Nat} (t : Vector α n) (k : Nat) (a b : α) : tput (tput t k a) k b = tput t k b := by
  cases k <;> simp [tput]

/-- Of two writes of one record, the second stands, where both give the record the same line. -/
theorem PotRegister.put_put (g : PotRegister) (p : Nat) (r q : PotRecord) (same : q.line = r.line) :
    (g.put p r).put p q = g.put p q := by
  by_cases known : isPosition p = true
  · obtain ⟨low, high⟩ := (isPosition_iff p).mp known
    have countIn : r.countIn = q.countIn := (congrArg PotRecord.countIn same).symm
    have countOut : r.countOut = q.countOut := (congrArg PotRecord.countOut same).symm
    have shareR : r.shareR = q.shareR := (congrArg PotRecord.shareR same).symm
    have shareV : r.shareV = q.shareV := (congrArg PotRecord.shareV same).symm
    have owner : r.countedOwner = q.countedOwner := (congrArg PotRecord.countedOwner same).symm
    simp [PotRegister.put, known, tget_tput_same _ _ _ _ low high, tput_tput, countIn, countOut, shareR, shareV, owner,
      moveOwner]
  · simp [PotRegister.put_outside, known]

theorem State.putPot_putPot (s : State) (p : Nat) (r q : PotRecord) (same : q.line = r.line) :
    (s.putPot p r).putPot p q = s.putPot p q := by
  simp [State.putPot, PotRegister.put_put _ _ _ _ same]

/-! ### The examination of a report, by AE state (R30, R32, R35) -/

theorem AeState.confirmed_of_ne {a : AeState} (notNone : a ≠ .none) (notSuspect : a ≠ .suspect) :
    a.confirmed = true := by
  cases a
  case none => exact absurd rfl notNone
  case suspect => exact absurd rfl notSuspect
  all_goals rfl

theorem State.startAge_congr {s t : State} {p : Nat} (stamp : (t.pot p).startStamp = (s.pot p).startStamp)
    (now : t.now = s.now) : t.startAge p = s.startAge p := by
  simp [State.startAge, stamp, now]

theorem State.examineReport_none {s : State} {p : Nat} (quiet : (s.pot p).ae = .none) :
    s.examineReport p =
      if (s.pot p).holdRuns s.now then s
      else if s.params.vAe ≤ (s.pot p).voltage then
        s.putPot p { s.pot p with
          ae := .suspect, aeClass := .normal, startStamp := some s.now, startHoldEnd := none }
      else s := by
  simp only [State.examineReport, quiet]

theorem State.examineReport_suspect {s : State} {p : Nat} (suspect : (s.pot p).ae = .suspect) :
    s.examineReport p =
      if (s.pot p).voltage < s.params.vAe then s.putPot p { s.pot p with ae := .none, startStamp := none }
      else if s.startAge p < s.params.tConfirm then s
      else s.confirmEffect p := by
  simp only [State.examineReport, suspect]

theorem State.examineReport_confirmed {s : State} {p : Nat} (confirmed : (s.pot p).ae.confirmed = true) :
    s.examineReport p = if (s.pot p).voltage < s.params.vAeEnd then s.endEffect p else s := by
  rcases (AeState.confirmed_iff _).mp confirmed with h | h | h <;> simp only [State.examineReport, h]

/-! ### The record a report of an IN pot stores (R15) -/

theorem State.reportedRecord_inCircuit {s : State} {p : Nat} (into : (s.pot p).circuit = .inCircuit) (v : Nat) :
    s.reportedRecord (s.pot p) v = reported s p v := by
  simp [State.reportedRecord, State.reportedResistance, reported, into]

theorem State.acceptReport_adopt {s : State} {p : Nat} (into : (s.pot p).circuit = .inCircuit)
    (adopt : s.current.mode = .adopt) (v : Nat) : s.acceptReport p v = s.putPot p (reported s p v) := by
  simp [State.acceptReport, State.reportedRecord_inCircuit into, adopt]

/-- In RUN and HOLD the report of an IN pot is examined on the record it has just stored (R29). -/
theorem State.acceptReport_examined {s : State} {p : Nat} (into : (s.pot p).circuit = .inCircuit)
    (watching : s.current.mode ≠ .adopt) (v : Nat) :
    s.acceptReport p v = (s.putPot p (reported s p v)).examineReport p := by
  simp [State.acceptReport, State.reportedRecord_inCircuit into, into, watching]

theorem State.startAge_reported (s : State) (p v : Nat) (known : isPosition p = true) :
    (s.putPot p (reported s p v)).startAge p = s.startAge p :=
  State.startAge_congr (by rw [State.pot_putPot_same _ _ _ known]; rfl) rfl

/-- Settles O11: each AE state has one equation for its examination, read at the record just stored. -/
theorem watchDecidesReport : Obligations.WatchDecidesReport := by
  intro s p v low high into r
  have known : isPosition p = true := (isPosition_iff p).mpr ⟨low, high⟩
  refine ⟨fun adopt => State.acceptReport_adopt into adopt v, fun watching => ?_⟩
  rw [State.acceptReport_examined into watching]
  have stored : (s.putPot p r).pot p = r := State.pot_putPot_same s p r known
  have twice : ∀ q : PotRecord, q.line = r.line → (s.putPot p r).putPot p q = s.putPot p q :=
    State.putPot_putPot s p r
  have hold : ((s.putPot p r).pot p).holdRuns (s.putPot p r).now = held (s.pot p) s.now := by
    rw [stored, PotRecord.held_eq_holdRuns]
    rfl
  have voltage : ((s.putPot p r).pot p).voltage = v := by rw [stored]; rfl
  have params : (s.putPot p r).params = s.params := rfl
  have started : (s.putPot p r).startAge p = s.startAge p := State.startAge_reported s p v known
  have ae : ((s.putPot p r).pot p).ae = (s.pot p).ae := by rw [stored]; rfl
  refine ⟨fun quiet runs => ?_, fun quiet expired below => ?_, fun quiet expired reached => ?_, fun suspect below => ?_,
    fun suspect reached young => ?_, fun notNone notSuspect reached => ?_⟩
  · rw [State.examineReport_none (ae.trans quiet), hold, runs, if_pos rfl]
  · rw [State.examineReport_none (ae.trans quiet), hold, expired, voltage, params, if_neg Bool.false_ne_true,
      if_neg (Nat.not_le.mpr below)]
  · rw [State.examineReport_none (ae.trans quiet), hold, expired, voltage, params, if_neg Bool.false_ne_true,
      if_pos reached, twice _ (by rw [stored]; rfl), stored]
    rfl
  · rw [State.examineReport_suspect (ae.trans suspect), voltage, params, if_pos below, twice _ (by rw [stored]; rfl),
      stored]
  · rw [State.examineReport_suspect (ae.trans suspect), voltage, params, started, if_neg (Nat.not_lt.mpr reached),
      if_pos young]
  · have confirmed : ((s.putPot p r).pot p).ae.confirmed = true := by
      rw [ae]
      exact AeState.confirmed_of_ne notNone notSuspect
    rw [State.examineReport_confirmed confirmed, voltage, params, if_neg (Nat.not_lt.mpr reached)]

end Sys2Proof.Machine
end

section
/-! PROOFS. What grants do to the queue, the slots and the records (R45, R48 to R51). -/

namespace Sys2Proof.Machine

/-! ### An evaluation raises VOLTAGE LIMIT at most (R119) -/

theorem State.raise_source_other (s : State) (source : Source) (detail c : Nat) (other : c ≠ source.code) :
    (s.raise source detail).attention.source c = s.attention.source c :=
  AttentionUnit.source_put_other _ _ _ _ other

theorem State.evaluate_source (s : State) (cycle : Bool) (c : Nat) (other : c ≠ 2) :
    (s.evaluate cycle).attention.source c = s.attention.source c := by
  have noted : ∀ (t : State) (before : Governing),
      (t.noteVoltage before).attention.source c = t.attention.source c := by
    intro t before
    rcases State.noteVoltage_cases t before with h | h <;> rw [h]
    exact State.raise_source_other t .voltageLimit 0 c other
  unfold State.evaluate
  dsimp only
  rcases State.splitInMode_cases ((s.withMoved s.limitsNow (s.moved cycle s.limitsNow)).noteVoltage s.current.governing)
    with h | h <;> rw [h] <;> exact noted _ _

/-! ### The queue (R45) -/

theorem placeAhead_perm (follows : Nat → Bool) (p : Nat) (l : List Nat) : (placeAhead follows p l).Perm (p :: l) := by
  induction l with
  | nil => exact .refl _
  | cons q rest ih =>
    unfold placeAhead
    split
    · exact .refl _
    · exact (ih.cons q).trans (.swap p q rest)

theorem State.mem_enterQuenchQueue (s : State) (p q : Nat) :
    q ∈ (s.enterQuenchQueue p).quench.queue ↔ q = p ∨ q ∈ s.quench.queue :=
  mem_placeAhead _ p q _

theorem State.enterQuenchQueue_nodup {s : State} {p : Nat} (once : s.quench.queue.Nodup) (absent : p ∉ s.quench.queue) :
    (s.enterQuenchQueue p).quench.queue.Nodup :=
  (placeAhead_perm _ p _).nodup_iff.mpr (List.nodup_cons.mpr ⟨absent, once⟩)

/-! ### One grant (R50) -/

theorem State.freeSlot_free {s : State} {k : Nat} (free : s.freeSlot = some k) :
    1 ≤ k ∧ k ≤ 4 ∧ s.slot k = none := by
  have member := List.mem_of_find?_eq_some free
  have empty := List.find?_some free
  simp only [List.mem_cons, List.not_mem_nil, or_false] at member
  exact ⟨by omega, by omega, by simpa using empty⟩

theorem State.grant_quench (s : State) (p k : Nat) :
    (s.grant p k).quench = { slots := tput s.quench.slots k (some ⟨p, s.now⟩), queue := s.quench.queue.erase p } :=
  (State.evaluate_tables _ false).2

theorem State.grant_slot_same (s : State) (p k : Nat) (low : 1 ≤ k) (high : k ≤ 4) :
    (s.grant p k).slot k = some ⟨p, s.now⟩ := by
  simp [State.slot, State.grant_quench, tget_tput_same _ _ _ _ low high]

theorem State.grant_slot_other (s : State) (p k j : Nat) (differ : j ≠ k) : (s.grant p k).slot j = s.slot j := by
  simp [State.slot, State.grant_quench, tget_tput_other _ _ _ _ _ differ]

theorem State.grant_pot_same (s : State) (p k : Nat) (known : isPosition p = true) :
    (s.grant p k).pot p = { s.pot p with ae := .quenching, slot := some k } := by
  unfold State.grant
  rw [State.pot_congr (State.eventEvaluation_pots _), State.pot_putPot_same _ _ _ known]

theorem State.grant_pot_other (s : State) (p k q : Nat) (differ : q ≠ p) : (s.grant p k).pot q = s.pot q := by
  unfold State.grant
  rw [State.pot_congr (State.eventEvaluation_pots _), State.pot_putPot_other _ _ _ _ differ]
  rfl

theorem State.grant_source (s : State) (p k c : Nat) (other : c ≠ 2) :
    (s.grant p k).attention.source c = s.attention.source c :=
  State.evaluate_source _ false c other

/-! ### A run of grants -/

/-- The pot still waits in the queue, its record as it was. -/
def State.StillWaits (s t : State) (p : Nat) : Prop :=
  p ∈ t.quench.queue ∧ t.pot p = s.pot p

/-- The pot has left the queue for a slot that was FREE. -/
def State.TakesSlot (s t : State) (p k : Nat) : Prop :=
  p ∉ t.quench.queue ∧ s.slot k = none ∧ t.slot k = some ⟨p, s.now⟩ ∧
    t.pot p = { s.pot p with ae := .quenching, slot := some k }

/-- What stands between two states where pots are granted slots from the head of the queue, and nothing else happens. -/
structure State.ByGrants (s t : State) : Prop where
  links : s.SameLinks t
  source : ∀ c, c ≠ 2 → t.attention.source c = s.attention.source c
  queue : t.quench.queue <:+ s.quench.queue
  slotKept : ∀ k h, s.slot k = some h → t.slot k = some h
  slotNew : ∀ k h, t.slot k = some h → s.slot k = some h ∨ h.position ∈ s.quench.queue
  outside : ∀ q, q ∉ s.quench.queue → t.pot q = s.pot q
  inside : s.quench.queue.Nodup → ∀ p ∈ s.quench.queue, isPosition p = true →
    s.StillWaits t p ∨ ∃ k, s.TakesSlot t p k

theorem State.SameLinks.now {s t : State} (same : s.SameLinks t) : t.now = s.now :=
  congrArg DemandMeter.lineSeconds same.meter

theorem State.ByGrants.refl (s : State) : s.ByGrants s where
  links := .refl s
  source _ _ := rfl
  queue := List.suffix_refl _
  slotKept _ _ held := held
  slotNew _ _ held := .inl held
  outside _ _ := rfl
  inside _ _ member _ := .inl ⟨member, rfl⟩

theorem State.ByGrants.absent {s t : State} (grants : s.ByGrants t) {p : Nat} (absent : p ∉ s.quench.queue) :
    p ∉ t.quench.queue :=
  fun member => absent (grants.queue.subset member)

theorem State.ByGrants.slotFree {s t : State} (grants : s.ByGrants t) {k : Nat} (free : t.slot k = none) :
    s.slot k = none := by
  cases held : s.slot k with
  | none => rfl
  | some h => simp [grants.slotKept k h held] at free

theorem State.ByGrants.trans {s t u : State} (first : s.ByGrants t) (second : t.ByGrants u) : s.ByGrants u where
  links := first.links.trans second.links
  source c other := (second.source c other).trans (first.source c other)
  queue := second.queue.trans first.queue
  slotKept k h held := second.slotKept k h (first.slotKept k h held)
  slotNew k h held := by
    rcases second.slotNew k h held with before | member
    · exact first.slotNew k h before
    · exact .inr (first.queue.subset member)
  outside q absent := (second.outside q (first.absent absent)).trans (first.outside q absent)
  inside once p member known := by
    rcases first.inside once p member known with ⟨stays, record⟩ | ⟨k, left, free, held, record⟩
    · rcases second.inside (once.sublist first.queue.sublist) p stays known with
        ⟨stays', record'⟩ | ⟨k, left, free, held, record'⟩
      · exact .inl ⟨stays', record'.trans record⟩
      · rw [first.links.now] at held
        rw [record] at record'
        exact .inr ⟨k, left, first.slotFree free, held, record'⟩
    · exact .inr ⟨k, second.absent left, free, second.slotKept k _ held, (second.outside p left).trans record⟩

/-- One grant to the head of the queue (R50). -/
theorem State.grant_byGrants {s : State} {p k : Nat} {rest : List Nat} (queue : s.quench.queue = p :: rest)
    (free : s.freeSlot = some k) : s.ByGrants (s.grant p k) := by
  obtain ⟨low, high, empty⟩ := State.freeSlot_free free
  have left : (s.grant p k).quench.queue = rest := by
    simp [State.grant_quench, queue]
  refine ⟨State.grant_links s p k, fun c => State.grant_source s p k c, ?_, fun j h held => ?_, fun j h held => ?_,
    fun q absent => ?_, fun once q member known => ?_⟩
  · rw [left, queue]
    exact List.suffix_cons p rest
  · have differ : j ≠ k := by
      rintro rfl
      simp [empty] at held
    rw [State.grant_slot_other s p k j differ, held]
  · by_cases same : j = k
    · subst same
      rw [State.grant_slot_same s p j low high, Option.some.injEq] at held
      exact .inr (by rw [← held, queue]; exact List.mem_cons_self)
    · exact .inl ((State.grant_slot_other s p k j same).symm.trans held)
  · have differ : q ≠ p := by
      rintro rfl
      exact absent (by rw [queue]; exact List.mem_cons_self)
    exact State.grant_pot_other s p k q differ
  · rw [queue] at once member
    by_cases head : q = p
    · subst head
      refine .inr ⟨k, ?_, empty, State.grant_slot_same s q k low high, State.grant_pot_same s q k known⟩
      rw [left]
      exact (List.nodup_cons.mp once).1
    · refine .inl ⟨?_, State.grant_pot_other s p k q head⟩
      rw [left]
      exact List.mem_of_ne_of_mem head member

theorem State.grantLoop_byGrants (n : Nat) (s : State) : s.ByGrants (State.grantLoop n s) := by
  induction n generalizing s with
  | zero => exact .refl s
  | succ n ih =>
    unfold State.grantLoop
    split
    · next queue free =>
      split
      · exact (State.grant_byGrants queue free).trans (ih _)
      · exact .refl s
    · exact .refl s

/-- Whatever a grant evaluation does, it does by grants (R48). -/
theorem State.grantEvaluation_byGrants (s : State) : s.ByGrants s.grantEvaluation :=
  State.grantLoop_byGrants 4 s

end Sys2Proof.Machine
end

section
/-! PROOFS. A confirmation (R33, R34). -/

namespace Sys2Proof.Machine

open Sys2Proof.Claims

/-! ### The switch queue's advance (R65) -/

theorem State.advanceSwitchQueue_queue (s : State) (p : Nat) :
    (s.advanceSwitchQueue p).switching.queue = s.switching.queue.erase p := by
  unfold State.advanceSwitchQueue
  split
  · next empty => simp [empty]
  · next head rest queue =>
    rw [queue]
    split
    · next same =>
      rw [same, List.erase_cons_head]
      split <;> rfl
    · rfl

/-- The advance writes the record of the next entry at most. -/
theorem State.advanceSwitchQueue_pot (s : State) (p q : Nat) (absent : q ∉ s.switching.queue.erase p) :
    (s.advanceSwitchQueue p).pot q = s.pot q := by
  unfold State.advanceSwitchQueue
  split
  · rfl
  · next head rest queue =>
    rw [queue] at absent
    split
    · next same =>
      rw [same, List.erase_cons_head] at absent
      split
      · rfl
      · exact State.pot_putPot_other _ _ q _ fun same => absent (same ▸ List.mem_cons_self)
    · rfl

/-! ### The switch record of a confirmed pot (R34) -/

theorem State.endSwitch_pot_same (s : State) (p : Nat) (result : SwitchResult) (known : isPosition p = true)
    (once : s.switching.queue.Nodup) :
    (s.endSwitch p result).pot p = { s.pot p with switch := none, lastSwitch := result } :=
  (State.advanceSwitchQueue_pot (s.putPot p _) p p once.not_mem_erase).trans (State.pot_putPot_same s p _ known)

theorem State.endSwitch_pot_other (s : State) (p q : Nat) (result : SwitchResult) (differ : q ≠ p)
    (absent : q ∉ s.switching.queue) : (s.endSwitch p result).pot q = s.pot q :=
  (State.advanceSwitchQueue_pot (s.putPot p _) p q fun member => absent (List.mem_of_mem_erase member)).trans
    (State.pot_putPot_other s p q _ differ)

theorem State.endSwitch_queue (s : State) (p : Nat) (result : SwitchResult) :
    (s.endSwitch p result).switching.queue = s.switching.queue.erase p :=
  State.advanceSwitchQueue_queue _ p

theorem State.cancelByEffect_of_none {s : State} {p : Nat} (unswitched : (s.pot p).switch = none) :
    s.cancelByEffect p = s := by
  simp [State.cancelByEffect, unswitched]

theorem State.cancelByEffect_of_ne_none {s : State} {p : Nat} (switched : (s.pot p).switch ≠ none) :
    s.cancelByEffect p = s.endSwitch p .aeCancelled := by
  simp [State.cancelByEffect, Option.isSome_iff_ne_none.mpr switched]

theorem State.cancelByEffect_eq (s : State) (p : Nat) :
    s.cancelByEffect p = if (s.pot p).switch = none then s else s.endSwitch p .aeCancelled := by
  split
  · next unswitched => exact State.cancelByEffect_of_none unswitched
  · next switched => exact State.cancelByEffect_of_ne_none switched

theorem State.cancelByEffect_frame (s : State) (p : Nat) :
    s.cancelByEffect p =
      { s with pots := (s.cancelByEffect p).pots, switching := (s.cancelByEffect p).switching } := by
  unfold State.cancelByEffect
  split
  · exact State.endSwitch_frame s p _
  · rfl

theorem State.cancelByEffect_pot_same (s : State) (p : Nat) (known : isPosition p = true)
    (once : s.switching.queue.Nodup) :
    (s.cancelByEffect p).pot p = { s.pot p with
      switch := none, lastSwitch := if (s.pot p).switch = none then (s.pot p).lastSwitch else .aeCancelled } := by
  rw [State.cancelByEffect_eq]
  split
  · next unswitched => rw [← unswitched]
  · exact State.endSwitch_pot_same s p _ known once

theorem State.cancelByEffect_pot_other (s : State) (p q : Nat) (differ : q ≠ p) (absent : q ∉ s.switching.queue) :
    (s.cancelByEffect p).pot q = s.pot q := by
  rw [State.cancelByEffect_eq]
  split
  · rfl
  · exact State.endSwitch_pot_other s p q _ differ absent

/-! ### The pot handed to the Quench Arbiter (R33 steps 3 to 5) -/

/-- A WAITING pot with its switch record cancelled, its place in the quench queue taken and AE CONFIRMED raised: a
confirmation before its grant evaluation. -/
def State.handedOver (s : State) (p : Nat) : State :=
  ((s.cancelByEffect p).enterQuenchQueue p).raise .aeConfirmed p

theorem State.confirmEffect_eq (s : State) (p : Nat) :
    s.confirmEffect p = ((s.putPot p { s.pot p with
      ae := .waiting, aeCount := min ((s.pot p).aeCount + 1) 255, confirmStamp := some s.now }).handedOver
        p).grantEvaluation :=
  rfl

theorem State.handedOver_pot (s : State) (p q : Nat) : (s.handedOver p).pot q = (s.cancelByEffect p).pot q :=
  rfl

theorem State.handedOver_switching (s : State) (p : Nat) :
    (s.handedOver p).switching = (s.cancelByEffect p).switching :=
  rfl

theorem State.handedOver_meter (s : State) (p : Nat) : (s.handedOver p).meter = s.meter := by
  unfold State.handedOver
  rw [State.cancelByEffect_frame]
  rfl

theorem State.handedOver_slot (s : State) (p k : Nat) : (s.handedOver p).slot k = s.slot k := by
  unfold State.handedOver
  rw [State.cancelByEffect_frame]
  rfl

theorem State.mem_handedOver (s : State) (p q : Nat) :
    q ∈ (s.handedOver p).quench.queue ↔ q = p ∨ q ∈ s.quench.queue := by
  have kept : (s.cancelByEffect p).quench = s.quench := by rw [State.cancelByEffect_frame]
  rw [← kept]
  exact State.mem_enterQuenchQueue _ p q

theorem State.handedOver_nodup {s : State} {p : Nat} (once : s.quench.queue.Nodup) (absent : p ∉ s.quench.queue) :
    (s.handedOver p).quench.queue.Nodup := by
  have kept : (s.cancelByEffect p).quench = s.quench := by rw [State.cancelByEffect_frame]
  rw [← kept] at once absent
  exact State.enterQuenchQueue_nodup once absent

theorem State.handedOver_source_same (s : State) (p : Nat) :
    (s.handedOver p).attention.source 10 = (s.attention.source 10).raised p := by
  have kept : (s.cancelByEffect p).attention = s.attention := by rw [State.cancelByEffect_frame]
  rw [← kept]
  exact AttentionUnit.source_put_same _ 10 _ (by decide) (by decide)

theorem State.handedOver_source_other (s : State) (p c : Nat) (other : c ≠ 10) :
    (s.handedOver p).attention.source c = s.attention.source c := by
  have kept : (s.cancelByEffect p).attention = s.attention := by rw [State.cancelByEffect_frame]
  rw [← kept]
  exact State.raise_source_other _ .aeConfirmed p c other

/-! ### The confirming report (R32, R33) -/

/-- The record of a pot whose report confirms, after steps 1 and 2 of R33. -/
def confirmedRecord (s : State) (p v : Nat) : PotRecord :=
  { reported s p v with ae := .waiting, aeCount := min ((s.pot p).aeCount + 1) 255, confirmStamp := some s.now }

/-- The confirming report: the record written once, the pot handed over, and the grant evaluation last. -/
theorem State.acceptReport_confirms {s : State} {p v : Nat} (known : isPosition p = true)
    (into : (s.pot p).circuit = .inCircuit) (watching : s.current.mode ≠ .adopt) (suspect : (s.pot p).ae = .suspect)
    (reached : s.params.vAe ≤ v) (aged : s.params.tConfirm ≤ s.startAge p) :
    s.acceptReport p v = ((s.putPot p (confirmedRecord s p v)).handedOver p).grantEvaluation := by
  have stored := State.pot_putPot_same s p (reported s p v) known
  have suspect' : ((s.putPot p (reported s p v)).pot p).ae = .suspect := by rw [stored]; exact suspect
  have params : (s.putPot p (reported s p v)).params = s.params := rfl
  have twice : (s.putPot p (reported s p v)).putPot p (confirmedRecord s p v) = s.putPot p (confirmedRecord s p v) :=
    State.putPot_putPot s p (reported s p v) _ rfl
  rw [State.acceptReport_examined into watching, State.examineReport_suspect suspect', State.startAge_reported s p v known,
    params, if_neg (by rw [stored]; exact Nat.not_lt.mpr reached), if_neg (Nat.not_lt.mpr aged), State.confirmEffect_eq,
    stored, ← twice]
  rfl

/-- Settles O12: the pot handed over waits in the queue, and by the grants that follow it waits still or takes a slot. -/
theorem confirmationQueuesPot : Obligations.ConfirmationQueuesPot := by
  intro s p v low high into watching suspect reached aged once absent switchOnce
  have known : isPosition p = true := (isPosition_iff p).mpr ⟨low, high⟩
  have whole := State.acceptReport_confirms known into watching suspect reached aged
  have rest := State.acceptReport_meterAndLinks s p v
  generalize s.acceptReport p v = t at whole rest ⊢
  let w := s.putPot p (confirmedRecord s p v)
  have grants : (w.handedOver p).ByGrants t := by
    rw [whole]
    exact State.grantEvaluation_byGrants _
  have written : w.pot p = confirmedRecord s p v := State.pot_putPot_same s p _ known
  have others : ∀ q, q ≠ p → w.pot q = s.pot q := fun q => State.pot_putPot_other s p q _
  have handed : (w.handedOver p).pot p = { confirmedRecord s p v with
      switch := none, lastSwitch := if (s.pot p).switch = none then (s.pot p).lastSwitch else .aeCancelled } := by
    have cancelled := State.cancelByEffect_pot_same w p known switchOnce
    rw [written] at cancelled
    exact cancelled
  have outcome := grants.inside (State.handedOver_nodup once absent) p ((State.mem_handedOver w p p).mpr (.inl rfl)) known
  have fields : (t.pot p).aeCount = min ((s.pot p).aeCount + 1) 255 ∧ (t.pot p).aeClass = (s.pot p).aeClass ∧
      (t.pot p).startStamp = (s.pot p).startStamp ∧ (t.pot p).aeSeconds = (s.pot p).aeSeconds ∧
      (t.pot p).switch = none ∧
      (t.pot p).lastSwitch = (if (s.pot p).switch = none then (s.pot p).lastSwitch else .aeCancelled) := by
    rcases outcome with ⟨-, record⟩ | ⟨k, -, -, -, record⟩ <;> rw [record, handed] <;>
      exact ⟨rfl, rfl, rfl, rfl, rfl, rfl⟩
  obtain ⟨count, cls, stamp, seconds, switch, last⟩ := fields
  have switching : t.switching = (w.cancelByEffect p).switching := grants.links.switching
  refine ⟨count, cls, stamp, seconds, switch, last, fun switched => ?_, fun unswitched => ?_, ?_, fun c other other' => ?_,
    ?_, fun q differ noClaim noSwitch => ?_, rest.meter, rest.tariff, rest.field, rest.port, ?_⟩
  · have present : (w.pot p).switch ≠ none := by rw [written]; exact switched
    rw [switching, State.cancelByEffect_of_ne_none present, State.endSwitch_queue]
    exact switchOnce.not_mem_erase
  · have gone : (w.pot p).switch = none := by rw [written]; exact unswitched
    rw [switching, State.cancelByEffect_of_none gone]
    rfl
  · exact (grants.source 10 (by decide)).trans (State.handedOver_source_same w p)
  · exact (grants.source c other').trans (State.handedOver_source_other w p c other)
  · rcases outcome with ⟨waits, record⟩ | ⟨k, left, free, held, record⟩
    · exact .inl ⟨by rw [record, handed]; rfl, waits⟩
    · rw [State.handedOver_slot] at free
      rw [State.now, State.handedOver_meter] at held
      exact .inr ⟨by rw [record], left, k, by rw [record], held, free⟩
  · have outside : q ∉ (w.handedOver p).quench.queue := by
      rw [State.mem_handedOver]
      exact fun member => member.elim differ noClaim
    rw [grants.outside q outside, State.handedOver_pot, State.cancelByEffect_pot_other w p q differ noSwitch,
      others q differ]
  · have cancelled := State.cancelByEffect_eq w p
    rw [written] at cancelled
    rw [whole]
    unfold State.handedOver
    rw [cancelled]
    rfl

end Sys2Proof.Machine
end

section
/-! PROOFS. The end of an anode effect (R35, R36). -/

namespace Sys2Proof.Machine

open Sys2Proof.Claims

/-! ### The claim of one pot on the Quench Arbiter (R44, R46) -/

/-- A pot's place in the queue, its slot and its settle stamp stand as its AE state says, each of them once. -/
structure State.ClaimAgrees (s : State) (p : Nat) : Prop where
  once : s.quench.queue.Nodup
  queued : p ∈ s.quench.queue ↔ (s.pot p).ae = .waiting
  slotted : (s.pot p).slot ≠ none ↔ (s.pot p).ae = .quenching
  settling : (s.pot p).settleStamp ≠ none ↔ (s.pot p).ae = .settling
  held : ∀ k ∈ [1, 2, 3, 4], (s.slot k).map HeldSlot.position = some p ↔ (s.pot p).slot = some k

theorem State.ClaimAgrees.noSlot {s : State} {p : Nat} (agrees : s.ClaimAgrees p)
    (other : (s.pot p).ae ≠ .quenching) : (s.pot p).slot = none :=
  not_not.mp fun holds => other (agrees.slotted.mp holds)

theorem State.ClaimAgrees.noSettle {s : State} {p : Nat} (agrees : s.ClaimAgrees p)
    (other : (s.pot p).ae ≠ .settling) : (s.pot p).settleStamp = none :=
  not_not.mp fun stamped => other (agrees.settling.mp stamped)

theorem State.ClaimAgrees.unqueued {s : State} {p : Nat} (agrees : s.ClaimAgrees p)
    (other : (s.pot p).ae ≠ .waiting) : p ∉ s.quench.queue :=
  fun member => other (agrees.queued.mp member)

theorem State.slot_outside (s : State) (k : Nat) (out : ¬ (1 ≤ k ∧ k ≤ 4)) : s.slot k = none :=
  tget_outside none s.quench.slots k (by omega)

theorem State.ClaimAgrees.named {s : State} {p k : Nat} (agrees : s.ClaimAgrees p)
    (held : (s.slot k).map HeldSlot.position = some p) : (s.pot p).slot = some k := by
  by_cases inside : 1 ≤ k ∧ k ≤ 4
  · refine (agrees.held k ?_).mp held
    simp only [List.mem_cons, List.not_mem_nil, or_false]
    omega
  · simp [State.slot_outside s k inside] at held

theorem State.ClaimAgrees.unslotted {s : State} {p : Nat} (agrees : s.ClaimAgrees p)
    (other : (s.pot p).ae ≠ .quenching) (k : Nat) : (s.slot k).map HeldSlot.position ≠ some p := by
  intro held
  have named := agrees.named held
  simp [agrees.noSlot other] at named

/-- A report stored for the pot leaves its claim as it is. -/
theorem State.ClaimAgrees.reported {s : State} {p : Nat} (agrees : s.ClaimAgrees p) (known : isPosition p = true)
    (v : Nat) : (s.putPot p (reported s p v)).ClaimAgrees p := by
  have written := State.pot_putPot_same s p (Claims.reported s p v) known
  refine ⟨agrees.once, ?_, ?_, ?_, fun k number => ?_⟩ <;> rw [written]
  · exact agrees.queued
  · exact agrees.slotted
  · exact agrees.settling
  · exact agrees.held k number

/-! ### The claim released (R36 step 1) -/

/-- A record without a claim on the Quench Arbiter. -/
def PotRecord.released (r : PotRecord) : PotRecord :=
  { r with slot := none, settleStamp := none }

theorem PotRecord.released_of_noSlot {r : PotRecord} (noSlot : r.slot = none) :
    r.released = { r with settleStamp := none } := by
  unfold PotRecord.released
  rw [noSlot]

theorem PotRecord.released_of_noSettle {r : PotRecord} (noSettle : r.settleStamp = none) :
    r.released = { r with slot := none } := by
  unfold PotRecord.released
  rw [noSettle]

theorem PotRecord.released_self {r : PotRecord} (noSlot : r.slot = none) (noSettle : r.settleStamp = none) :
    r.released = r := by
  rw [PotRecord.released_of_noSlot noSlot, ← noSettle]

/-- What the release of a pot's claim leaves, whichever state it ends from. -/
structure State.ClaimReleased (s t : State) (p : Nat) : Prop where
  record : t.pot p = (s.pot p).released
  unqueued : p ∉ t.quench.queue
  unslotted : ∀ k, (t.slot k).map HeldSlot.position ≠ some p
  others : ∀ q, q ≠ p → q ∉ s.quench.queue → t.pot q = s.pot q
  source : ∀ c, c ≠ 2 → t.attention.source c = s.attention.source c
  switching : t.switching = s.switching
  quench : (s.pot p).ae ≠ .quenching →
    t.quench.slots = s.quench.slots ∧ t.quench.queue = s.quench.queue.erase p

theorem State.releaseClaim_waiting {s : State} {p : Nat} (waiting : (s.pot p).ae = .waiting) :
    s.releaseClaim p = s.leaveQuenchQueue p := by
  simp only [State.releaseClaim, waiting]

theorem State.releaseClaim_quenching {s : State} {p k : Nat} (quenching : (s.pot p).ae = .quenching)
    (named : (s.pot p).slot = some k) :
    s.releaseClaim p = ((s.putSlot k none).putPot p { s.pot p with slot := none }).grantEvaluation := by
  simp only [State.releaseClaim, State.freeSlotOf, quenching, named]

theorem State.releaseClaim_settling {s : State} {p : Nat} (settling : (s.pot p).ae = .settling) :
    s.releaseClaim p = s.putPot p { s.pot p with settleStamp := none } := by
  simp only [State.releaseClaim, settling]

theorem State.ClaimAgrees.released_waiting {s : State} {p : Nat} (agrees : s.ClaimAgrees p)
    (waiting : (s.pot p).ae = .waiting) : s.ClaimReleased (s.releaseClaim p) p := by
  have notQuenching : (s.pot p).ae ≠ .quenching := by simp [waiting]
  have notSettling : (s.pot p).ae ≠ .settling := by simp [waiting]
  rw [State.releaseClaim_waiting waiting]
  exact {
    record := (PotRecord.released_self (agrees.noSlot notQuenching) (agrees.noSettle notSettling)).symm
    unqueued := agrees.once.not_mem_erase
    unslotted := agrees.unslotted notQuenching
    others := fun _ _ _ => rfl
    source := fun _ _ => rfl
    switching := rfl
    quench := fun _ => ⟨rfl, rfl⟩ }

theorem State.ClaimAgrees.released_settling {s : State} {p : Nat} (agrees : s.ClaimAgrees p)
    (known : isPosition p = true) (settling : (s.pot p).ae = .settling) : s.ClaimReleased (s.releaseClaim p) p := by
  have notQuenching : (s.pot p).ae ≠ .quenching := by simp [settling]
  have unqueued : p ∉ s.quench.queue := agrees.unqueued (by simp [settling])
  rw [State.releaseClaim_settling settling]
  exact {
    record := (State.pot_putPot_same s p _ known).trans
      (PotRecord.released_of_noSlot (agrees.noSlot notQuenching)).symm
    unqueued := unqueued
    unslotted := agrees.unslotted notQuenching
    others := fun q differ _ => State.pot_putPot_other s p q _ differ
    source := fun _ _ => rfl
    switching := rfl
    quench := fun _ => ⟨rfl, (List.erase_of_not_mem unqueued).symm⟩ }

/-- A pot's slot made FREE: no slot names the pot any more. -/
theorem State.ClaimAgrees.slot_freed {s : State} {p k : Nat} (agrees : s.ClaimAgrees p)
    (named : (s.pot p).slot = some k) (j : Nat) : ((s.putSlot k none).slot j).map HeldSlot.position ≠ some p := by
  intro held
  by_cases same : j = k
  · subst same
    by_cases inside : 1 ≤ j ∧ j ≤ 4
    · simp [State.slot_putSlot_same s j none inside.1 inside.2] at held
    · simp [State.slot_outside _ j inside] at held
  · rw [State.slot_putSlot_other s k j none same] at held
    have other := agrees.named held
    rw [named, Option.some.injEq] at other
    exact same other.symm

/-- The grants that follow the release reach neither the pot nor its slot's name: the pot is not in the queue. -/
theorem State.ClaimAgrees.released_quenching {s : State} {p k : Nat} (agrees : s.ClaimAgrees p)
    (known : isPosition p = true) (quenching : (s.pot p).ae = .quenching) (named : (s.pot p).slot = some k) :
    s.ClaimReleased (s.releaseClaim p) p := by
  have unqueued : p ∉ s.quench.queue := agrees.unqueued (by simp [quenching])
  have noSettle : (s.pot p).settleStamp = none := agrees.noSettle (by simp [quenching])
  have grants := State.grantEvaluation_byGrants ((s.putSlot k none).putPot p { s.pot p with slot := none })
  rw [State.releaseClaim_quenching quenching named]
  exact {
    record := (grants.outside p unqueued).trans ((State.pot_putPot_same _ p _ known).trans
      (PotRecord.released_of_noSettle noSettle).symm)
    unqueued := grants.absent unqueued
    unslotted := by
      intro j held
      obtain ⟨h, inSlot, position⟩ := Option.map_eq_some_iff.mp held
      rcases grants.slotNew j h inSlot with before | member
      · exact agrees.slot_freed named j (Option.map_eq_some_iff.mpr ⟨h, before, position⟩)
      · exact unqueued (position ▸ member)
    others := fun q differ absent => (grants.outside q absent).trans (State.pot_putPot_other _ p q _ differ)
    source := grants.source
    switching := grants.links.switching
    quench := fun other => absurd quenching other }

theorem State.ClaimAgrees.released {s : State} {p : Nat} (agrees : s.ClaimAgrees p) (known : isPosition p = true)
    (confirmed : (s.pot p).ae.confirmed = true) : s.ClaimReleased (s.releaseClaim p) p := by
  rcases (AeState.confirmed_iff _).mp confirmed with waiting | quenching | settling
  · exact agrees.released_waiting waiting
  · obtain ⟨k, named⟩ := Option.ne_none_iff_exists'.mp (agrees.slotted.mpr quenching)
    exact agrees.released_quenching known quenching named
  · exact agrees.released_settling known settling

/-! ### The effect ended (R36 steps 2 and 3) -/

/-- A record whose effect has ended, with the seconds credited. -/
def PotRecord.effectEnded (r : PotRecord) (seconds : Nat) : PotRecord :=
  { r with
    ae := .none, aeClass := .normal, startStamp := none, confirmStamp := none
    aeSeconds := min (r.aeSeconds + seconds) 65535 }

/-- The seconds credited are those of the pot's start stamp: neither the stamp nor the clock moves as the claim is
released. -/
theorem State.endEffect_of_released {s : State} {p : Nat} (released : s.ClaimReleased (s.releaseClaim p) p) :
    s.endEffect p = (s.releaseClaim p).putPot p ((s.pot p).released.effectEnded (s.startAge p)) := by
  have started : (s.releaseClaim p).startAge p = s.startAge p :=
    State.startAge_congr (by rw [released.record]; rfl)
      (congrArg DemandMeter.lineSeconds (State.releaseClaim_meterAndLinks s p).meter)
  rw [← released.record, ← started]
  rfl

theorem State.acceptReport_ends {s : State} {p v : Nat} (known : isPosition p = true)
    (into : (s.pot p).circuit = .inCircuit) (watching : s.current.mode ≠ .adopt)
    (confirmed : (s.pot p).ae.confirmed = true) (below : v < s.params.vAeEnd) :
    s.acceptReport p v = (s.putPot p (reported s p v)).endEffect p := by
  have stored := State.pot_putPot_same s p (reported s p v) known
  have confirmed' : ((s.putPot p (reported s p v)).pot p).ae.confirmed = true := by rw [stored]; exact confirmed
  rw [State.acceptReport_examined into watching, State.examineReport_confirmed confirmed',
    if_pos (by rw [stored]; exact below)]

/-- Settles O13: the claim is released on the record just stored, and the write that ends the effect is the last. -/
theorem effectEndsBelowThreshold : Obligations.EffectEndsBelowThreshold := by
  intro s p v low high into watching state below once queued slotted settling held
  have known : isPosition p = true := (isPosition_iff p).mpr ⟨low, high⟩
  have confirmed : (s.pot p).ae.confirmed = true := (AeState.confirmed_iff _).mpr state
  let w := s.putPot p (reported s p v)
  have written : w.pot p = reported s p v := State.pot_putPot_same s p _ known
  have agrees : w.ClaimAgrees p := State.ClaimAgrees.reported ⟨once, queued, slotted, settling, held⟩ known v
  have released := agrees.released known (by rw [written]; exact confirmed)
  have rest := State.acceptReport_meterAndLinks s p v
  have whole : s.acceptReport p v =
      (w.releaseClaim p).putPot p ((reported s p v).released.effectEnded (s.startAge p)) := by
    rw [State.acceptReport_ends known into watching confirmed below, State.endEffect_of_released released, written,
      State.startAge_reported s p v known]
  generalize s.acceptReport p v = t at whole rest ⊢
  have own : t.pot p = (reported s p v).released.effectEnded (s.startAge p) := by
    rw [whole, State.pot_putPot_same _ p _ known]
  have others : ∀ q, q ≠ p → t.pot q = (w.releaseClaim p).pot q := by
    intro q differ
    rw [whole, State.pot_putPot_other _ p q _ differ]
  have quench : t.quench = (w.releaseClaim p).quench := by rw [whole]; rfl
  have attention : t.attention = (w.releaseClaim p).attention := by rw [whole]; rfl
  have switching : t.switching = (w.releaseClaim p).switching := by rw [whole]; rfl
  have fields : (t.pot p).ae = .none ∧ (t.pot p).aeClass = .normal ∧ (t.pot p).startStamp = none ∧
      (t.pot p).slot = none ∧ (t.pot p).settleStamp = none ∧ (t.pot p).aeCount = (s.pot p).aeCount ∧
      (t.pot p).aeSeconds = min ((s.pot p).aeSeconds + s.startAge p) 65535 := by
    rw [own]
    exact ⟨rfl, rfl, rfl, rfl, rfl, rfl, rfl⟩
  obtain ⟨ae, cls, stamp, slot, settle, count, seconds⟩ := fields
  refine ⟨ae, cls, stamp, slot, settle, count, seconds, ?_, fun k => ?_, fun c other => ?_, fun notQuenching => ?_,
    fun q differ absent => ?_, switching.trans released.switching, rest.meter, rest.tariff, rest.field, rest.port,
    fun k named => ?_⟩
  · rw [quench]
    exact released.unqueued
  · rw [State.slot_congr quench]
    exact released.unslotted k
  · rw [attention]
    exact released.source c other
  · rw [quench]
    exact released.quench (by rw [written]; exact notQuenching)
  · rw [others q differ, released.others q differ absent]
    exact State.pot_putPot_other s p q _ differ
  · have quenching : (s.pot p).ae = .quenching := slotted.mp (by simp [named])
    have shape : w.releaseClaim p =
        ((s.putSlot k none).putPot p { reported s p v with slot := none }).grantEvaluation := by
      have twice := State.putPot_putPot (s.putSlot k none) p (reported s p v) { reported s p v with slot := none } rfl
      rw [State.releaseClaim_quenching (k := k) (by rw [written]; exact quenching) (by rw [written]; exact named), written,
        ← twice]
      rfl
    dsimp only
    rw [← shape, released.record, written]
    exact whole

end Sys2Proof.Machine
end

section
/-! PROOFS. The order of the quench queue, and a placement in it (R44, R45). -/

namespace Sys2Proof.Machine

/-- Pot `a` stands ahead of pot `b` in the order of R44, as the statements write it. -/
def State.Ahead (s : State) (a b : Nat) : Prop :=
  ((s.pot a).aeClass = .escalated ∧ (s.pot b).aeClass = .normal) ∨
    ((s.pot a).aeClass = (s.pot b).aeClass ∧
      (s.startAge b < s.startAge a ∨ (s.startAge a = s.startAge b ∧ a < b)))

/-- The comparison that a placement makes is the order of R44. -/
theorem State.standsAhead_iff (s : State) (a b : Nat) : s.standsAhead a b = true ↔ s.Ahead a b := by
  unfold State.standsAhead State.Ahead
  cases (s.pot a).aeClass <;> cases (s.pot b).aeClass <;> simp [AeClass.rank]
  all_goals
    split
    · next same => simp [same]
    · next differ => simp [differ]

theorem State.Ahead.trans {s : State} {a b c : Nat} (first : s.Ahead a b) (second : s.Ahead b c) : s.Ahead a c := by
  unfold State.Ahead at *
  rcases first with ⟨up, down⟩ | ⟨same, older⟩ <;> rcases second with ⟨up', down'⟩ | ⟨same', older'⟩
  · simp [down] at up'
  · exact .inl ⟨up, same' ▸ down⟩
  · exact .inl ⟨same.trans up', down'⟩
  · exact .inr ⟨same.trans same', by omega⟩

/-- Of two pots, one stands ahead of the other. -/
theorem State.ahead_of_not_ahead {s : State} {a b : Nat} (differ : a ≠ b) (behind : ¬ s.Ahead a b) : s.Ahead b a := by
  unfold State.Ahead at *
  cases classA : (s.pot a).aeClass <;> cases classB : (s.pot b).aeClass <;> simp_all
  all_goals omega

/-- A placement among entries in their order keeps the order (R45). -/
theorem State.placeAhead_ahead (s : State) (p : Nat) (l : List Nat) (absent : p ∉ l) (order : l.Pairwise s.Ahead) :
    (placeAhead (s.standsAhead p) p l).Pairwise s.Ahead := by
  induction l with
  | nil => exact List.pairwise_singleton _ p
  | cons q rest ih =>
    obtain ⟨differ, absent⟩ := not_or.mp (List.mem_cons.not.mp absent)
    obtain ⟨first, order⟩ := List.pairwise_cons.mp order
    unfold placeAhead
    split
    · next ahead =>
      have ahead : s.Ahead p q := (s.standsAhead_iff p q).mp ahead
      refine List.pairwise_cons.mpr ⟨fun x member => ?_, List.pairwise_cons.mpr ⟨first, order⟩⟩
      rcases List.mem_cons.mp member with rfl | later
      · exact ahead
      · exact ahead.trans (first x later)
    · next behind =>
      have ahead : s.Ahead q p := State.ahead_of_not_ahead differ fun h => behind ((s.standsAhead_iff p q).mpr h)
      refine List.pairwise_cons.mpr ⟨fun x member => ?_, ih absent order⟩
      rcases (mem_placeAhead _ p x rest).mp member with rfl | later
      · exact ahead
      · exact first x later

theorem placeAhead_erase (follows : Nat → Bool) (p : Nat) (l : List Nat) (absent : p ∉ l) :
    (placeAhead follows p l).erase p = l := by
  induction l with
  | nil => simp [placeAhead]
  | cons q rest ih =>
    obtain ⟨differ, absent⟩ := not_or.mp (List.mem_cons.not.mp absent)
    unfold placeAhead
    split
    · exact List.erase_cons_head p (q :: rest)
    · rw [List.erase_cons_tail (by simpa using Ne.symm differ), ih absent]

/-- Settles O15: the placement compares by the order of R44, which is transitive and connects any two pots. -/
theorem placementKeepsQueueOrder : Obligations.PlacementKeepsQueueOrder := by
  intro s p absent ahead order
  exact ⟨s.placeAhead_ahead p s.quench.queue absent order, placeAhead_perm _ p _, placeAhead_erase _ p _ absent⟩

end Sys2Proof.Machine
end

section
/-! PROOFS. The agreement of the queues, the slots and the records, taken pot by pot (R28, R44, R46, R64, R69): what the
queues and the slots hold of one pot is its place, and its record fits the place. An operation on one pot keeps the
agreement of every other pot, and the pot's own agreement is shown at the operation's end. -/

namespace Sys2Proof.Machine

/-! ### The place of a pot -/

/-- What the queues and the slots hold of one pot: it waits in the quench queue, it holds a slot, it stands in the switch
queue, and it heads it. -/
structure Place where
  waits : Prop
  holds : Nat → Prop
  switches : Prop
  heads : Prop

def State.place (s : State) (p : Nat) : Place where
  waits := p ∈ s.quench.queue
  holds k := (s.slot k).map HeldSlot.position = some p
  switches := p ∈ s.switching.queue
  heads := s.switching.queue.head? = some p

/-- A record is sound and says of its pot what the place says. -/
structure PotRecord.Fits (r : PotRecord) (x : Place) : Prop where
  sound : r.Sound
  waits : x.waits ↔ r.ae = .waiting
  holds : ∀ k, x.holds k ↔ r.slot = some k
  switches : x.switches ↔ r.switch.isSome = true
  heads : ∀ w, r.switch = some w → (x.heads ↔ w.phase ≠ .queued)

/-- The record of a pot fits its place. -/
def State.PotFits (s : State) (p : Nat) : Prop :=
  (s.pot p).Fits (s.place p)

/-- What the queues keep apart from the records: no pot stands twice in one, and the switch queue is short and in RUN. -/
structure State.QueuesFit (s : State) : Prop where
  quenchOnce : s.quench.queue.Nodup
  switchOnce : s.switching.queue.Nodup
  switchLength : s.switching.queue.length ≤ 8
  switchMode : s.switching.queue ≠ [] → s.current.mode = .run

theorem State.pot_outside (s : State) (p : Nat) (out : ¬ isPosition p = true) : s.pot p = PotRecord.empty := by
  rw [isPosition_iff] at out
  exact tget_outside _ _ _ (by omega)

theorem State.isPosition_of_effect {s : State} {p : Nat} {a : AeState} (effect : (s.pot p).ae = a)
    (some : a ≠ .none := by decide) : isPosition p = true := by
  by_contra out
  rw [State.pot_outside s p out] at effect
  exact some effect.symm

theorem State.isPosition_of_switch {s : State} {p : Nat} (switched : (s.pot p).switch.isSome = true) :
    isPosition p = true := by
  by_contra out
  rw [State.pot_outside s p out] at switched
  cases switched

theorem PotRecord.empty_sound : PotRecord.empty.Sound := by
  constructor <;> simp [PotRecord.empty]

theorem PotRecord.Sound.quenching_of_slot {r : PotRecord} (sound : r.Sound) {k : Nat} (named : r.slot = some k) :
    r.ae = .quenching :=
  sound.slot.mp (by rw [named]; rfl)

theorem State.QueuesSound.queuesFit {s : State} (sound : s.QueuesSound) : s.QueuesFit :=
  ⟨sound.quenchOnce, sound.switchOnce, sound.switchLength, sound.switchMode⟩

theorem State.QueuesSound.potFits {s : State} (sound : s.QueuesSound) (p : Nat) : s.PotFits p := by
  have record : (s.pot p).Sound := by
    by_cases known : isPosition p = true
    · exact sound.records p known
    · rw [State.pot_outside s p known]
      exact PotRecord.empty_sound
  refine ⟨record, ?_, fun k => ⟨fun held => ?_, fun named => ?_⟩, ?_, fun w switched => ⟨fun heads => ?_, fun runs => ?_⟩⟩
  · exact (sound.quenchMember p).trans
      ⟨fun h => h.2, fun waiting => ⟨State.isPosition_of_effect waiting, waiting⟩⟩
  · obtain ⟨h, inSlot, rfl⟩ := Option.map_eq_some_iff.mp held
    obtain ⟨-, -, named⟩ := sound.slotHeld k h inSlot
    exact named
  · have quenching := record.quenching_of_slot named
    obtain ⟨h, inSlot, position⟩ := sound.slotNamed p k (State.isPosition_of_effect quenching) named
    exact Option.map_eq_some_iff.mpr ⟨h, inSlot, position⟩
  · exact (sound.switchMember p).trans ⟨fun h => h.2, fun switched => ⟨State.isPosition_of_switch switched, switched⟩⟩
  · obtain ⟨rest, queue⟩ := List.head?_eq_some_iff.mp heads
    exact sound.switchHead p rest w queue switched
  · have some : (s.pot p).switch.isSome = true := by rw [switched]; rfl
    have member := (sound.switchMember p).mpr ⟨State.isPosition_of_switch some, some⟩
    cases queue : s.switching.queue with
    | nil => simp [queue] at member
    | cons head rest =>
      rw [queue] at member
      rcases List.mem_cons.mp member with same | later
      · simp [State.place, queue, same]
      · exact absurd (sound.switchRest head rest p w queue later switched) runs

theorem State.queuesSound_of_fits {s : State} (queues : s.QueuesFit) (fits : ∀ p, s.PotFits p) : s.QueuesSound := by
  refine ⟨fun p _ => (fits p).sound, queues.quenchOnce, fun p => ?_, fun k h inSlot => ?_, fun p k _ named => ?_,
    queues.switchOnce, fun p => ?_, queues.switchLength, fun p rest w queue switched => ?_,
    fun p rest q w queue later switched => ?_, queues.switchMode⟩
  · exact (fits p).waits.trans
      ⟨fun waiting => ⟨State.isPosition_of_effect waiting, waiting⟩, fun h => h.2⟩
  · have named := ((fits h.position).holds k).mp (by simp [State.place, inSlot])
    have quenching := (fits h.position).sound.quenching_of_slot named
    exact ⟨State.isPosition_of_effect quenching, quenching, named⟩
  · obtain ⟨h, inSlot, position⟩ := Option.map_eq_some_iff.mp (((fits p).holds k).mpr named)
    exact ⟨h, inSlot, position⟩
  · exact (fits p).switches.trans ⟨fun switched => ⟨State.isPosition_of_switch switched, switched⟩, fun h => h.2⟩
  · exact ((fits p).heads w switched).mp (by simp [State.place, queue])
  · by_contra runs
    have heads := ((fits q).heads w switched).mpr runs
    have once := queues.switchOnce
    simp only [State.place, queue, List.head?_cons, Option.some.injEq] at heads
    rw [queue, heads] at once
    exact (List.nodup_cons.mp once).1 later

/-! ### The agreement, with or without the order of the quench queue -/

/-- The queues, the slots and the records agree, and where `order` is asked the quench queue stands in its order. -/
structure State.Arranged (order : Prop) (s : State) : Prop where
  queues : s.QueuesFit
  fits : ∀ p, s.PotFits p
  ordered : order → s.QueueOrdered

/-- The same beside one pot: nothing is asked of the pot's own record, place and rank in the queue. -/
structure State.ArrangedBeside (order : Prop) (s : State) (p : Nat) : Prop where
  queues : s.QueuesFit
  fits : ∀ q, q ≠ p → s.PotFits q
  ordered : order → (s.quench.queue.erase p).Pairwise s.Ahead

theorem State.arranged_iff (order : Prop) (s : State) :
    s.Arranged order ↔ s.QueuesSound ∧ (order → s.QueueOrdered) :=
  ⟨fun arranged => ⟨State.queuesSound_of_fits arranged.queues arranged.fits, arranged.ordered⟩,
    fun ⟨sound, ordered⟩ => ⟨sound.queuesFit, sound.potFits, ordered⟩⟩

/-- An order of pots is one of fewer pots, in a state that keeps their classes and the ages of their stamps. -/
theorem State.pairwise_ahead {s t : State} {l k : List Nat} (order : l.Pairwise s.Ahead) (fewer : k.Sublist l)
    (kept : ∀ p ∈ k, (t.pot p).aeClass = (s.pot p).aeClass ∧ t.startAge p = s.startAge p) : k.Pairwise t.Ahead := by
  refine (order.sublist fewer).imp_of_mem fun {a b} memberA memberB ahead => ?_
  obtain ⟨classA, ageA⟩ := kept a memberA
  obtain ⟨classB, ageB⟩ := kept b memberB
  unfold State.Ahead
  rw [classA, classB, ageA, ageB]
  exact ahead

variable {order : Prop} {s t : State} {p : Nat}

theorem State.Arranged.beside (arranged : s.Arranged order) (p : Nat) : s.ArrangedBeside order p :=
  ⟨arranged.queues, fun q _ => arranged.fits q, fun asked => (arranged.ordered asked).sublist List.erase_sublist⟩

/-- The agreement is closed where the pot's record fits its place and the pot does not wait. -/
theorem State.ArrangedBeside.close (beside : s.ArrangedBeside order p) (own : s.PotFits p)
    (absent : p ∉ s.quench.queue) : s.Arranged order where
  queues := beside.queues
  fits q := by
    by_cases same : q = p
    · exact same ▸ own
    · exact beside.fits q same
  ordered asked := by
    have ordered := beside.ordered asked
    rwa [List.erase_of_not_mem absent] at ordered

/-- What the agreement beside a pot reads: the queues in themselves, and the record and the place of every other pot. -/
theorem State.ArrangedBeside.of_others (beside : s.ArrangedBeside order p) (queues : t.QueuesFit)
    (others : ∀ q, q ≠ p → t.pot q = s.pot q ∧ t.place q = s.place q) (now : t.now = s.now)
    (fewer : (t.quench.queue.erase p).Sublist (s.quench.queue.erase p)) : t.ArrangedBeside order p where
  queues := queues
  fits q differ := by
    obtain ⟨record, place⟩ := others q differ
    unfold State.PotFits
    rw [record, place]
    exact beside.fits q differ
  ordered asked := by
    refine State.pairwise_ahead (beside.ordered asked) fewer fun q member => ?_
    have differ : q ≠ p := by
      rintro rfl
      exact queues.quenchOnce.not_mem_erase member
    obtain ⟨record, -⟩ := others q differ
    exact ⟨by rw [record], State.startAge_congr (by rw [record]) now⟩

/-! ### Views: the parts that the agreement reads -/

/-- The parts of the block that the agreement of the queues reads. -/
structure QueueView where
  pots : PotRegister
  quench : QuenchArbiter
  switching : SwitchController
  mode : LineMode
  now : Nat

def State.queueView (s : State) : QueueView :=
  ⟨s.pots, s.quench, s.switching, s.current.mode, s.now⟩

theorem State.queueView_iff : t.queueView = s.queueView ↔
    t.pots = s.pots ∧ t.quench = s.quench ∧ t.switching = s.switching ∧ t.current.mode = s.current.mode ∧
      t.now = s.now := by
  simp [State.queueView]

theorem State.place_congr (quench : t.quench = s.quench) (switching : t.switching = s.switching) (p : Nat) :
    t.place p = s.place p := by
  simp [State.place, State.slot_congr quench, quench, switching]

theorem State.QueuesFit.congr (fit : s.QueuesFit) (quench : t.quench.queue = s.quench.queue)
    (switching : t.switching = s.switching) (mode : t.current.mode = s.current.mode) : t.QueuesFit := by
  constructor
  · exact quench ▸ fit.quenchOnce
  · exact switching ▸ fit.switchOnce
  · exact switching ▸ fit.switchLength
  · exact switching ▸ mode ▸ fit.switchMode

theorem State.Arranged.of_view (arranged : s.Arranged order) (same : t.queueView = s.queueView) :
    t.Arranged order := by
  obtain ⟨pots, quench, switching, mode, now⟩ := State.queueView_iff.mp same
  have record : ∀ p, t.pot p = s.pot p := State.pot_congr pots
  refine ⟨arranged.queues.congr (congrArg _ quench) switching mode, fun p => ?_, fun asked => ?_⟩
  · unfold State.PotFits
    rw [record, State.place_congr quench switching]
    exact arranged.fits p
  · refine State.pairwise_ahead (arranged.ordered asked) (quench ▸ List.Sublist.refl _) fun p _ => ?_
    exact ⟨by rw [record], State.startAge_congr (by rw [record]) now⟩

/-! ### One write of a record, of the quench queue, of a slot -/

@[simp] theorem State.putPot_place (s : State) (p : Nat) (r : PotRecord) (q : Nat) :
    (s.putPot p r).place q = s.place q := rfl

@[simp] theorem State.raise_place (s : State) (source : Source) (detail q : Nat) :
    (s.raise source detail).place q = s.place q := rfl

@[simp] theorem State.raise_pot (s : State) (source : Source) (detail q : Nat) :
    (s.raise source detail).pot q = s.pot q := rfl

theorem State.PotFits.putPot {r : PotRecord} (fits : r.Fits (s.place p)) (known : isPosition p = true) :
    (s.putPot p r).PotFits p := by
  unfold State.PotFits
  rwa [State.pot_putPot_same s p r known]

/-- A write of the pot's own record. -/
theorem State.ArrangedBeside.putPot (beside : s.ArrangedBeside order p) (r : PotRecord) :
    (s.putPot p r).ArrangedBeside order p :=
  beside.of_others (beside.queues.congr rfl rfl rfl) (fun q differ => ⟨State.pot_putPot_other s p q r differ, rfl⟩) rfl
    (List.Sublist.refl _)

/-- A record written that fits its pot's place as it stands, and where the pot waits keeps its class and its stamp. -/
theorem State.Arranged.putPot (arranged : s.Arranged order) (p : Nat) (r : PotRecord) (fits : r.Fits (s.place p))
    (kept : (s.pot p).ae = .waiting → r.aeClass = (s.pot p).aeClass ∧ r.startStamp = (s.pot p).startStamp) :
    (s.putPot p r).Arranged order := by
  by_cases known : isPosition p = true
  · have written := State.pot_putPot_same s p r known
    refine ⟨arranged.queues.congr rfl rfl rfl, fun q => ?_, fun asked => ?_⟩
    · by_cases same : q = p
      · subst same
        exact State.PotFits.putPot fits known
      · exact ((arranged.beside p).putPot r).fits q same
    · refine State.pairwise_ahead (arranged.ordered asked) (List.Sublist.refl _) fun q member => ?_
      by_cases same : q = p
      · subst same
        obtain ⟨cls, stamp⟩ := kept ((arranged.fits q).waits.mp member)
        exact ⟨by rw [written, cls], State.startAge_congr (by rw [written, stamp]) rfl⟩
      · have record := State.pot_putPot_other s p q r same
        exact ⟨by rw [record], State.startAge_congr (by rw [record]) rfl⟩
  · have same : s.putPot p r = s := by
      simp [State.putPot, PotRegister.put_outside s.pots p r (by simpa using known)]
    rwa [same]

/-- The pot leaves the quench queue (R45). -/
theorem State.ArrangedBeside.leave (beside : s.ArrangedBeside order p) :
    (s.leaveQuenchQueue p).ArrangedBeside order p := by
  refine beside.of_others ⟨beside.queues.quenchOnce.erase p, beside.queues.switchOnce, beside.queues.switchLength,
    beside.queues.switchMode⟩ (fun q differ => ⟨rfl, ?_⟩) rfl List.erase_sublist
  have waits : q ∈ (s.leaveQuenchQueue p).quench.queue ↔ q ∈ s.quench.queue := List.mem_erase_of_ne differ
  exact congrArg (fun w => { s.place q with waits := w }) (propext waits)

theorem State.leaveQuenchQueue_place (s : State) (p : Nat) (once : s.quench.queue.Nodup) :
    (s.leaveQuenchQueue p).place p = { s.place p with waits := False } := by
  have waits : ¬ p ∈ (s.leaveQuenchQueue p).quench.queue := once.not_mem_erase
  exact congrArg (fun w => { s.place p with waits := w }) (eq_false waits)

theorem State.enterQuenchQueue_place (s : State) (p : Nat) :
    (s.enterQuenchQueue p).place p = { s.place p with waits := True } := by
  have waits : p ∈ (s.enterQuenchQueue p).quench.queue := (State.mem_enterQuenchQueue s p p).mpr (.inl rfl)
  exact congrArg (fun w => { s.place p with waits := w }) (eq_true waits)

theorem State.enterQuenchQueue_place_other (s : State) (p q : Nat) (differ : q ≠ p) :
    (s.enterQuenchQueue p).place q = s.place q := by
  have waits : q ∈ (s.enterQuenchQueue p).quench.queue ↔ q ∈ s.quench.queue := by
    simp [State.mem_enterQuenchQueue, differ]
  exact congrArg (fun w => { s.place q with waits := w }) (propext waits)

/-- The pot enters the quench queue, which closes the agreement (R45). -/
theorem State.ArrangedBeside.enter (beside : s.ArrangedBeside order p) (absent : p ∉ s.quench.queue)
    (own : (s.pot p).Fits { s.place p with waits := True }) : (s.enterQuenchQueue p).Arranged order where
  queues := ⟨State.enterQuenchQueue_nodup beside.queues.quenchOnce absent, beside.queues.switchOnce,
    beside.queues.switchLength, beside.queues.switchMode⟩
  fits q := by
    by_cases same : q = p
    · subst same
      unfold State.PotFits
      rw [State.enterQuenchQueue_place]
      exact own
    · unfold State.PotFits
      rw [State.enterQuenchQueue_place_other s p q same]
      exact beside.fits q same
  ordered asked := by
    have ordered := beside.ordered asked
    rw [List.erase_of_not_mem absent] at ordered
    exact s.placeAhead_ahead p s.quench.queue absent ordered

/-- The slot that only this pot can hold becomes FREE (R46). -/
theorem State.ArrangedBeside.freeSlot (beside : s.ArrangedBeside order p) (k : Nat)
    (held : ∀ q, (s.place q).holds k → q = p) : (s.putSlot k none).ArrangedBeside order p := by
  refine beside.of_others (beside.queues.congr rfl rfl rfl) (fun q differ => ⟨rfl, ?_⟩) rfl (List.Sublist.refl _)
  have holds : (fun j => ((s.putSlot k none).slot j).map HeldSlot.position = some q) = (s.place q).holds := by
    funext j
    by_cases same : j = k
    · subst same
      have other : ¬ (s.place q).holds j := fun h => differ (held q h)
      by_cases inside : 1 ≤ j ∧ j ≤ 4
      · rw [State.slot_putSlot_same s j none inside.1 inside.2]
        simp [other]
      · rw [State.slot_outside _ j inside]
        simp [other]
    · rw [State.slot_putSlot_other s k j none same]
      rfl
  exact congrArg (fun h => { s.place q with holds := h }) holds

theorem State.putSlot_place (s : State) (p k : Nat) (only : ∀ j, (s.place p).holds j → j = k) :
    (s.putSlot k none).place p = { s.place p with holds := fun _ => False } := by
  have holds : (fun j => ((s.putSlot k none).slot j).map HeldSlot.position = some p) = fun _ => False := by
    funext j
    refine eq_false fun held => ?_
    by_cases same : j = k
    · subst same
      by_cases inside : 1 ≤ j ∧ j ≤ 4
      · simp [State.slot_putSlot_same s j none inside.1 inside.2] at held
      · simp [State.slot_outside _ j inside] at held
    · rw [State.slot_putSlot_other s k j none same] at held
      exact same (only j held)
  exact congrArg (fun h => { s.place p with holds := h }) holds

end Sys2Proof.Machine
end

section
/-! PROOFS. Grants and the switch queue's advance keep the agreement of the queues, the slots and the records (R48 to R51,
R64, R65). -/

namespace Sys2Proof.Machine

variable {order : Prop} {s t : State} {p : Nat}

/-! ### An evaluation leaves what the agreement reads -/

theorem State.SameLinks.queueView (same : s.SameLinks t) (pots : t.pots = s.pots) (quench : t.quench = s.quench) :
    t.queueView = s.queueView :=
  State.queueView_iff.mpr ⟨pots, quench, same.switching, same.mode, same.now⟩

@[simp] theorem State.evaluate_queueView (s : State) (cycle : Bool) : (s.evaluate cycle).queueView = s.queueView :=
  (State.evaluate_links s cycle).queueView (State.evaluate_tables s cycle).1 (State.evaluate_tables s cycle).2

@[simp] theorem State.eventEvaluation_queueView (s : State) : s.eventEvaluation.queueView = s.queueView :=
  State.evaluate_queueView s false

@[simp] theorem State.raise_queueView (s : State) (source : Source) (detail : Nat) :
    (s.raise source detail).queueView = s.queueView := rfl

/-! ### Grants (R48 to R51) -/

/-- A WAITING record that is granted a slot. -/
theorem PotRecord.Fits.granted {r : PotRecord} {x : Place} (fits : r.Fits x) (waits : x.waits) (k : Nat) :
    PotRecord.Fits { r with ae := .quenching, slot := some k } { x with waits := False, holds := fun j => j = k } := by
  have waiting : r.ae = .waiting := fits.waits.mp waits
  obtain ⟨sound, -, -, switches, heads⟩ := fits
  refine ⟨?_, by simp, fun j => by simp [eq_comm], switches, heads⟩
  constructor
  case effectIn => exact fun _ => sound.effectIn (by simp [waiting])
  case startStamp => simp [sound.startStamp, waiting]
  case slot => simp
  case settle => simp [sound.settle, waiting]
  case startHold => exact fun present => absurd (sound.startHold present).2 (by simp [waiting])
  case escalated => exact fun _ => .inr (.inl rfl)
  case switchEffect => exact fun present => absurd (sound.switchEffect present) (by simp [waiting])
  case switchIn => exact sound.switchIn
  case switchOut => exact sound.switchOut

/-- A grant changes the place of the pot granted only. -/
theorem State.grant_place_other (s : State) {p k q : Nat} (free : s.slot k = none) (differ : q ≠ p) :
    (s.grant p k).place q = s.place q := by
  have waits : q ∈ (s.grant p k).quench.queue ↔ q ∈ s.quench.queue := by
    rw [State.grant_quench]
    exact List.mem_erase_of_ne differ
  have holds : ∀ j, ((s.grant p k).slot j).map HeldSlot.position = some q ↔
      (s.slot j).map HeldSlot.position = some q := by
    intro j
    by_cases same : j = k
    · subst same
      by_cases inside : 1 ≤ j ∧ j ≤ 4
      · simp [State.grant_slot_same s p j inside.1 inside.2, free, differ.symm]
      · simp [State.slot_outside _ j inside]
    · rw [State.grant_slot_other s p k j same]
  simp [State.place, waits, holds, (State.grant_links s p k).switching]

theorem State.grant_place_same (s : State) {p k : Nat} (low : 1 ≤ k) (high : k ≤ 4) (once : s.quench.queue.Nodup)
    (unslotted : ∀ j, ¬ (s.place p).holds j) :
    (s.grant p k).place p = { s.place p with waits := False, holds := fun j => j = k } := by
  have waits : ¬ p ∈ (s.grant p k).quench.queue := by
    rw [State.grant_quench]
    exact once.not_mem_erase
  have holds : ∀ j, ((s.grant p k).slot j).map HeldSlot.position = some p ↔ j = k := by
    intro j
    by_cases same : j = k
    · subst same
      simp [State.grant_slot_same s p j low high]
    · rw [State.grant_slot_other s p k j same]
      exact ⟨fun held => absurd held (unslotted j), fun h => absurd h same⟩
  simp [State.place, waits, holds, (State.grant_links s p k).switching]

/-- One grant to the head of the queue, beside a pot that does not wait. -/
theorem State.ArrangedBeside.grant (beside : s.ArrangedBeside order p) (absent : p ∉ s.quench.queue) {h k : Nat}
    {rest : List Nat} (queue : s.quench.queue = h :: rest) (free : s.freeSlot = some k) :
    (s.grant h k).ArrangedBeside order p := by
  obtain ⟨low, high, empty⟩ := State.freeSlot_free free
  have links := State.grant_links s h k
  have left : (s.grant h k).quench.queue = rest := by simp [State.grant_quench, queue]
  have once := beside.queues.quenchOnce
  have head : h ≠ p := by
    rintro rfl
    exact absent (by simp [queue])
  refine ⟨⟨?_, links.switching ▸ beside.queues.switchOnce, links.switching ▸ beside.queues.switchLength,
    links.switching ▸ links.mode ▸ beside.queues.switchMode⟩, fun q differ => ?_, fun asked => ?_⟩
  · rw [left]
    exact (List.nodup_cons.mp (queue ▸ once)).2
  · by_cases same : q = h
    · subst same
      have fits : (s.pot q).Fits (s.place q) := beside.fits q head
      have waits : (s.place q).waits := by simp [State.place, queue]
      have known := State.isPosition_of_effect (fits.waits.mp waits)
      have unslotted : ∀ j, ¬ (s.place q).holds j := fun j held => by
        have quenching := fits.sound.quenching_of_slot ((fits.holds j).mp held)
        simp [fits.waits.mp waits] at quenching
      unfold State.PotFits
      rw [State.grant_pot_same s q k known, State.grant_place_same s low high once unslotted]
      exact fits.granted waits k
    · unfold State.PotFits
      rw [State.grant_pot_other s h k q same, State.grant_place_other s empty same]
      exact beside.fits q differ
  · refine State.pairwise_ahead (beside.ordered asked) ?_ fun q member => ?_
    · rw [left, queue]
      exact (List.sublist_cons_self h rest).erase p
    · have differ : q ≠ h := by
        rintro rfl
        rw [left] at member
        exact (List.nodup_cons.mp (queue ▸ once)).1 (List.mem_of_mem_erase member)
      have record := State.grant_pot_other s h k q differ
      exact ⟨by rw [record], State.startAge_congr (by rw [record]) links.now⟩

theorem State.ArrangedBeside.grantLoop (beside : s.ArrangedBeside order p) (absent : p ∉ s.quench.queue) (n : Nat) :
    (State.grantLoop n s).ArrangedBeside order p := by
  induction n generalizing s with
  | zero => exact beside
  | succ n ih =>
    unfold State.grantLoop
    split
    · next queue free =>
      split
      · exact ih (beside.grant absent queue free) ((State.grant_byGrants queue free).absent absent)
      · exact beside
    · exact beside

theorem State.ArrangedBeside.grantEvaluation (beside : s.ArrangedBeside order p) (absent : p ∉ s.quench.queue) :
    s.grantEvaluation.ArrangedBeside order p :=
  beside.grantLoop absent 4

/-- Grants leave the place of a pot that does not wait. -/
theorem State.ByGrants.place (grants : s.ByGrants t) (absent : p ∉ s.quench.queue) : t.place p = s.place p := by
  have waits : p ∉ t.quench.queue := grants.absent absent
  have holds : ∀ j, (t.slot j).map HeldSlot.position = some p ↔ (s.slot j).map HeldSlot.position = some p := by
    refine fun j => ⟨fun held => ?_, fun held => ?_⟩ <;> obtain ⟨h, inSlot, position⟩ := Option.map_eq_some_iff.mp held
    · rcases grants.slotNew j h inSlot with before | member
      · exact Option.map_eq_some_iff.mpr ⟨h, before, position⟩
      · exact absurd (position ▸ member) absent
    · exact Option.map_eq_some_iff.mpr ⟨h, grants.slotKept j h inSlot, position⟩
  simp [State.place, waits, absent, holds, grants.links.switching]

/-- A grant evaluation keeps the agreement: number 0, which is no pot, never waits. -/
theorem State.Arranged.grantEvaluation (arranged : s.Arranged order) : s.grantEvaluation.Arranged order := by
  have outside : s.pot 0 = PotRecord.empty := State.pot_outside s 0 (by decide)
  have absent : 0 ∉ s.quench.queue := fun member => by
    have waiting := (arranged.fits 0).waits.mp member
    rw [outside] at waiting
    cases waiting
  have grants := State.grantEvaluation_byGrants s
  refine ((arranged.beside 0).grantEvaluation absent).close ?_ (grants.absent absent)
  unfold State.PotFits
  rw [grants.place absent, grants.outside 0 absent]
  exact arranged.fits 0

/-! ### The switch queue (R64, R65) -/

/-- The advance touches the Pot Register and the switch queue only. -/
theorem State.advanceSwitchQueue_frame (s : State) (p : Nat) :
    s.advanceSwitchQueue p =
      { s with pots := (s.advanceSwitchQueue p).pots, switching := (s.advanceSwitchQueue p).switching } := by
  unfold State.advanceSwitchQueue
  split
  · rfl
  · split
    · split <;> rfl
    · rfl

theorem State.advanceSwitchQueue_quench (s : State) (p : Nat) : (s.advanceSwitchQueue p).quench = s.quench := by
  rw [State.advanceSwitchQueue_frame]

theorem State.advanceSwitchQueue_current (s : State) (p : Nat) : (s.advanceSwitchQueue p).current = s.current := by
  rw [State.advanceSwitchQueue_frame]

theorem State.advanceSwitchQueue_now (s : State) (p : Nat) : (s.advanceSwitchQueue p).now = s.now := by
  rw [State.advanceSwitchQueue_frame]
  rfl

/-- What the advance does to the record of another pot: nothing where it heads the queue as before, and where it comes to
the head its phase is RAMPING (R65). -/
theorem State.advanceSwitchQueue_other (s : State) {p q : Nat} (differ : q ≠ p) :
    ((s.advanceSwitchQueue p).pot q = s.pot q ∧
        ((s.switching.queue.erase p).head? = some q ↔ s.switching.queue.head? = some q)) ∨
      ((s.switching.queue.erase p).head? = some q ∧ (isPosition q = true →
        (s.advanceSwitchQueue p).pot q =
          { s.pot q with switch := (s.pot q).switch.map fun w => { w with phase := .ramping, stamp := s.now } })) := by
  unfold State.advanceSwitchQueue
  split
  · next empty => simp [empty]
  · next head rest queue =>
    rw [queue]
    split
    · next same =>
      rw [same, List.erase_cons_head]
      split
      · exact .inl ⟨rfl, by simp [differ.symm]⟩
      · next next more =>
        by_cases comes : q = next
        · subst comes
          exact .inr ⟨rfl, fun known => State.pot_putPot_same _ q _ known⟩
        · exact .inl ⟨State.pot_putPot_other _ next q _ comes, by simp [differ.symm, Ne.symm comes]⟩
    · next other =>
      rw [List.erase_cons_tail (by simpa using other)]
      exact .inl ⟨rfl, Iff.rfl⟩

theorem State.advanceSwitchQueue_place (s : State) (p : Nat) {q : Nat} (differ : q ≠ p) :
    (s.advanceSwitchQueue p).place q = { s.place q with heads := (s.switching.queue.erase p).head? = some q } := by
  have slots : ∀ k, (s.advanceSwitchQueue p).slot k = s.slot k := State.slot_congr (State.advanceSwitchQueue_quench s p)
  simp [State.place, State.advanceSwitchQueue_queue, State.advanceSwitchQueue_quench, slots,
    List.mem_erase_of_ne differ]

/-- The switch record of a pot that comes to the head of the queue. -/
theorem PotRecord.Fits.headed {r : PotRecord} {x : Place} (fits : r.Fits x) (now : Nat) :
    PotRecord.Fits { r with switch := r.switch.map fun w => { w with phase := .ramping, stamp := now } }
      { x with heads := True } := by
  obtain ⟨sound, waits, holds, switches, -⟩ := fits
  refine ⟨⟨sound.effectIn, sound.startStamp, sound.slot, sound.settle, sound.startHold, sound.escalated, ?_, ?_, ?_⟩,
    waits, holds, by simpa using switches, ?_⟩
  · simpa using sound.switchEffect
  · intro w switched into
    obtain ⟨v, before, rfl⟩ := Option.map_eq_some_iff.mp switched
    exact sound.switchIn v before into
  · intro w switched out
    obtain ⟨v, before, rfl⟩ := Option.map_eq_some_iff.mp switched
    exact sound.switchOut v before out
  · intro w switched
    obtain ⟨v, -, rfl⟩ := Option.map_eq_some_iff.mp switched
    simp

theorem State.ArrangedBeside.advance (beside : s.ArrangedBeside order p) :
    (s.advanceSwitchQueue p).ArrangedBeside order p := by
  have quench := State.advanceSwitchQueue_quench s p
  have queue := State.advanceSwitchQueue_queue s p
  refine ⟨⟨quench ▸ beside.queues.quenchOnce, queue ▸ beside.queues.switchOnce.erase p,
    queue ▸ List.length_erase_le.trans beside.queues.switchLength, fun some => ?_⟩, fun q differ => ?_, fun asked => ?_⟩
  · rw [State.advanceSwitchQueue_current]
    refine beside.queues.switchMode fun empty => some ?_
    rw [queue, empty, List.erase_nil]
  · have fits : (s.pot q).Fits (s.place q) := beside.fits q differ
    unfold State.PotFits
    rw [State.advanceSwitchQueue_place s p differ]
    rcases State.advanceSwitchQueue_other s differ with ⟨record, heads⟩ | ⟨heads, record⟩
    · rw [record, propext heads]
      exact fits
    · have switched : (s.pot q).switch.isSome = true :=
        fits.switches.mp (List.mem_of_mem_erase (List.mem_of_mem_head? heads))
      rw [record (State.isPosition_of_switch switched), eq_true heads]
      exact fits.headed s.now
  · refine State.pairwise_ahead (beside.ordered asked) (by rw [quench]) fun q member => ?_
    have differ : q ≠ p := by
      rintro rfl
      rw [quench] at member
      exact beside.queues.quenchOnce.not_mem_erase member
    have kept : ((s.advanceSwitchQueue p).pot q).aeClass = (s.pot q).aeClass ∧
        ((s.advanceSwitchQueue p).pot q).startStamp = (s.pot q).startStamp := by
      rcases State.advanceSwitchQueue_other s differ with ⟨record, -⟩ | ⟨heads, record⟩
      · rw [record]
        exact ⟨rfl, rfl⟩
      · have switched : (s.pot q).switch.isSome = true :=
          (beside.fits q differ).switches.mp (List.mem_of_mem_erase (List.mem_of_mem_head? heads))
        rw [record (State.isPosition_of_switch switched)]
        exact ⟨rfl, rfl⟩
    exact ⟨kept.1, State.startAge_congr kept.2 (State.advanceSwitchQueue_now s p)⟩

/-- A switch record leaves (R63, R65). -/
theorem State.ArrangedBeside.endSwitch (beside : s.ArrangedBeside order p) (result : SwitchResult) :
    (s.endSwitch p result).ArrangedBeside order p :=
  (beside.putPot _).advance

theorem State.endSwitch_place (s : State) (p : Nat) (result : SwitchResult) (once : s.switching.queue.Nodup) :
    (s.endSwitch p result).place p = { s.place p with switches := False, heads := False } := by
  have quench : (s.endSwitch p result).quench = s.quench := State.advanceSwitchQueue_quench _ p
  have slots : ∀ k, (s.endSwitch p result).slot k = s.slot k := State.slot_congr quench
  have switches : ¬ p ∈ (s.endSwitch p result).switching.queue := by
    rw [State.endSwitch_queue]
    exact once.not_mem_erase
  have heads : ¬ (s.endSwitch p result).switching.queue.head? = some p := fun head =>
    switches (List.mem_of_mem_head? head)
  simp [State.place, quench, slots, switches, heads]

/-- A record without its switch record. -/
theorem PotRecord.Fits.unswitched {r : PotRecord} {x : Place} (fits : r.Fits x) (result : SwitchResult) :
    PotRecord.Fits { r with switch := none, lastSwitch := result } { x with switches := False, heads := False } := by
  obtain ⟨sound, waits, holds, -, -⟩ := fits
  refine ⟨⟨sound.effectIn, sound.startStamp, sound.slot, sound.settle, sound.startHold, sound.escalated, ?_, ?_, ?_⟩,
    waits, holds, ?_, ?_⟩ <;> simp

/-- The end of a pot's switching operation, beside which the pot's own record may have been changed just before. -/
theorem State.ArrangedBeside.endSwitch_close (beside : s.ArrangedBeside order p) (result : SwitchResult)
    (known : isPosition p = true) (absent : p ∉ s.quench.queue)
    (own : PotRecord.Fits { s.pot p with switch := none, lastSwitch := result }
      { s.place p with switches := False, heads := False }) : (s.endSwitch p result).Arranged order := by
  refine (beside.endSwitch result).close ?_ ?_
  · unfold State.PotFits
    rw [State.endSwitch_pot_same s p result known beside.queues.switchOnce,
      State.endSwitch_place s p result beside.queues.switchOnce]
    exact own
  · have quench : (s.endSwitch p result).quench = s.quench := State.advanceSwitchQueue_quench _ p
    rwa [quench]

/-- A pot with a switch record has no claim on the quench queue. -/
theorem PotRecord.Fits.not_waits {r : PotRecord} {x : Place} (fits : r.Fits x) (switched : r.switch.isSome = true) :
    ¬ x.waits := fun waits => by
  have quiet := fits.sound.switchEffect switched
  simp [fits.waits.mp waits] at quiet

theorem State.Arranged.endSwitch (arranged : s.Arranged order) (switched : (s.pot p).switch.isSome = true)
    (result : SwitchResult) : (s.endSwitch p result).Arranged order :=
  (arranged.beside p).endSwitch_close result (State.isPosition_of_switch switched)
    ((arranged.fits p).not_waits switched) ((arranged.fits p).unswitched result)

end Sys2Proof.Machine
end

section
/-! PROOFS. The Quench Arbiter's releases and expiries, the watch's decisions and the switching operations keep the agreement
of the queues, the slots and the records (chapters 1 to 4). -/

namespace Sys2Proof.Machine

variable {order : Prop} {s t : State} {p : Nat}

/-! ### Sound records -/

/-- A record with only the fields that the agreement reads. -/
def PotRecord.watch (r : PotRecord) : PotRecord :=
  { PotRecord.empty with
    circuit := r.circuit, ae := r.ae, aeClass := r.aeClass, startStamp := r.startStamp, slot := r.slot
    settleStamp := r.settleStamp, startHoldEnd := r.startHoldEnd, switch := r.switch }

theorem PotRecord.watch_sound_iff (r : PotRecord) : r.watch.Sound ↔ r.Sound :=
  ⟨fun ⟨a, b, c, d, e, f, g, h, i⟩ => ⟨a, b, c, d, e, f, g, h, i⟩,
    fun ⟨a, b, c, d, e, f, g, h, i⟩ => ⟨a, b, c, d, e, f, g, h, i⟩⟩

theorem PotRecord.watch_fits_iff (r : PotRecord) (x : Place) : r.watch.Fits x ↔ r.Fits x :=
  ⟨fun ⟨a, b, c, d, e⟩ => ⟨r.watch_sound_iff.mp a, b, c, d, e⟩,
    fun ⟨a, b, c, d, e⟩ => ⟨r.watch_sound_iff.mpr a, b, c, d, e⟩⟩

/-- A change of other fields keeps a record fitting its place. -/
theorem PotRecord.Fits.of_watch {r q : PotRecord} {x : Place} (fits : r.Fits x) (same : q.watch = r.watch) : q.Fits x :=
  (q.watch_fits_iff x).mp (same ▸ (r.watch_fits_iff x).mpr fits)

/-- The record of a confirmed effect (R28, R34). -/
theorem PotRecord.sound_confirmed_iff {r : PotRecord} (confirmed : r.ae = .waiting ∨ r.ae = .quenching ∨ r.ae = .settling) :
    r.Sound ↔ r.circuit = .inCircuit ∧ r.startStamp.isSome = true ∧ r.startHoldEnd = none ∧ r.switch = none ∧
      (r.slot.isSome = true ↔ r.ae = .quenching) ∧ (r.settleStamp.isSome = true ↔ r.ae = .settling) := by
  have notNone : r.ae ≠ .none := by rcases confirmed with h | h | h <;> simp [h]
  have notSuspect : r.ae ≠ .suspect := by rcases confirmed with h | h | h <;> simp [h]
  constructor
  · intro sound
    refine ⟨sound.effectIn notNone, sound.startStamp.mpr notNone, ?_, ?_, sound.slot, sound.settle⟩
    · exact Option.not_isSome_iff_eq_none.mp fun present => notNone (sound.startHold present).2
    · exact Option.not_isSome_iff_eq_none.mp fun present => (sound.switchEffect present).elim notNone notSuspect
  · rintro ⟨circuit, stamp, hold, switch, slot, settle⟩
    constructor
    case effectIn => exact fun _ => circuit
    case startStamp => exact ⟨fun _ => notNone, fun _ => stamp⟩
    case slot => exact slot
    case settle => exact settle
    case escalated => exact fun _ => confirmed
    all_goals simp [hold, switch]

/-- The record of a pot without an effect (R28). -/
theorem PotRecord.sound_quiet_iff {r : PotRecord} (quiet : r.ae = .none) :
    r.Sound ↔ r.startStamp = none ∧ r.slot = none ∧ r.settleStamp = none ∧ r.aeClass = .normal ∧
      (r.startHoldEnd.isSome = true → r.circuit = .inCircuit) ∧
      (∀ w, r.switch = some w → w.direction = .cutIn → r.circuit = .outOfCircuit) ∧
      (∀ w, r.switch = some w → w.direction = .cutOut → r.circuit = .inCircuit) := by
  constructor
  · intro sound
    obtain ⟨-, stamp, slot, settle, hold, cls, -, into, out⟩ := sound
    refine ⟨by simpa [quiet] using stamp, by simpa [quiet] using slot, by simpa [quiet] using settle, ?_,
      fun present => (hold present).1, into, out⟩
    cases rank : r.aeClass
    · rfl
    · simp [quiet, rank] at cls
  · rintro ⟨stamp, slot, settle, cls, hold, into, out⟩
    exact ⟨fun h => absurd quiet h, by simp [stamp, quiet], by simp [slot, quiet], by simp [settle, quiet],
      fun present => ⟨hold present, quiet⟩, by simp [cls], fun _ => .inl quiet, into, out⟩

/-! ### Records that fit, by what happens to their pots -/

section Records

variable {r : PotRecord} {x : Place}

/-- A pot with a switch record has no claim on the quench queue and the slots. -/
theorem PotRecord.Fits.unclaimed (fits : r.Fits x) (switched : r.switch.isSome = true) :
    ¬ x.waits ∧ r.slot = none ∧ r.settleStamp = none := by
  have quiet := fits.sound.switchEffect switched
  refine ⟨fits.not_waits switched, ?_, ?_⟩ <;> refine Option.not_isSome_iff_eq_none.mp fun present => ?_
  · simp [fits.sound.slot.mp present] at quiet
  · simp [fits.sound.settle.mp present] at quiet

theorem PotRecord.Sound.normal_of_suspect (sound : r.Sound) (suspect : r.ae = .suspect) : r.aeClass = .normal := by
  have escalated := sound.escalated
  cases rank : r.aeClass
  · rfl
  · simp [rank, suspect] at escalated

/-- A start hold ends (R31). -/
theorem PotRecord.Fits.unheld (fits : r.Fits x) : PotRecord.Fits { r with startHoldEnd := none } x := by
  obtain ⟨⟨effectIn, stamp, slot, settle, -, escalated, switchEffect, switchIn, switchOut⟩, waits, holds, switches, heads⟩ :=
    fits
  exact ⟨⟨effectIn, stamp, slot, settle, by simp, escalated, switchEffect, switchIn, switchOut⟩, waits, holds, switches,
    heads⟩

/-- A SUSPECT effect starts (R30). -/
theorem PotRecord.Fits.suspected (fits : r.Fits x) (quiet : r.ae = .none) (into : r.circuit = .inCircuit) (now : Nat) :
    PotRecord.Fits { r with ae := .suspect, aeClass := .normal, startStamp := some now, startHoldEnd := none } x := by
  obtain ⟨sound, waits, holds, switches, heads⟩ := fits
  obtain ⟨-, slot, settle, -⟩ := (PotRecord.sound_quiet_iff quiet).mp sound
  exact ⟨⟨fun _ => into, by simp, by simp [slot], by simp [settle], by simp, by simp, fun _ => .inr rfl, sound.switchIn,
    sound.switchOut⟩, by simpa [quiet] using waits, holds, switches, heads⟩

/-- A SUSPECT effect ends unconfirmed (R32). -/
theorem PotRecord.Fits.cleared (fits : r.Fits x) (suspect : r.ae = .suspect) :
    PotRecord.Fits { r with ae := .none, startStamp := none } x := by
  obtain ⟨sound, waits, holds, switches, heads⟩ := fits
  exact ⟨(PotRecord.sound_quiet_iff rfl).mpr ⟨rfl, by simpa [suspect] using sound.slot,
    by simpa [suspect] using sound.settle, sound.normal_of_suspect suspect, fun present => (sound.startHold present).1,
    sound.switchIn, sound.switchOut⟩, by simpa [suspect] using waits, holds, switches, heads⟩

/-- A SUSPECT effect is confirmed, its pot's switch record cancelled (R33). -/
theorem PotRecord.Fits.confirmed (fits : r.Fits x) (suspect : r.ae = .suspect) (count : Nat) (stamp : Option Nat)
    (result : SwitchResult) :
    PotRecord.Fits
      { r with ae := .waiting, aeCount := count, confirmStamp := stamp, switch := none, lastSwitch := result }
      { x with waits := True, switches := False, heads := False } := by
  obtain ⟨sound, -, holds, -, -⟩ := fits
  have unheld : r.startHoldEnd = none := Option.not_isSome_iff_eq_none.mp fun present => by
    have quiet := (sound.startHold present).2
    simp [suspect] at quiet
  exact ⟨(PotRecord.sound_confirmed_iff (.inl rfl)).mpr ⟨sound.effectIn (by simp [suspect]),
    sound.startStamp.mpr (by simp [suspect]), unheld, rfl, by simpa [suspect] using sound.slot,
    by simpa [suspect] using sound.settle⟩, by simp, holds, by simp, by simp⟩

/-- A confirmed effect is escalated (R37). -/
theorem PotRecord.Fits.escalated (fits : r.Fits x)
    (confirmed : r.ae = .waiting ∨ r.ae = .quenching ∨ r.ae = .settling) :
    PotRecord.Fits { r with aeClass := .escalated } x :=
  ⟨(PotRecord.sound_confirmed_iff (r := { r with aeClass := .escalated }) confirmed).mpr
    ((PotRecord.sound_confirmed_iff confirmed).mp fits.sound), fits.waits, fits.holds, fits.switches, fits.heads⟩

/-- The quench of a pot ends (R53). -/
theorem PotRecord.Fits.settled (fits : r.Fits x) (quenching : r.ae = .quenching) (now : Nat) :
    PotRecord.Fits { r with ae := .settling, slot := none, settleStamp := some now }
      { x with holds := fun _ => False } := by
  obtain ⟨sound, waits, -, switches, heads⟩ := fits
  obtain ⟨circuit, stamp, hold, switch, -, -⟩ := (PotRecord.sound_confirmed_iff (.inr (.inl quenching))).mp sound
  exact ⟨(PotRecord.sound_confirmed_iff (.inr (.inr rfl))).mpr ⟨circuit, stamp, hold, switch, by simp, by simp⟩,
    by simpa [quenching] using waits, by simp, switches, heads⟩

/-- The permit of a pot runs out (R56). -/
theorem PotRecord.Fits.revoked (fits : r.Fits x) (quenching : r.ae = .quenching) (overruns : Nat) :
    PotRecord.Fits { r with ae := .waiting, slot := none, overruns := overruns }
      { x with waits := True, holds := fun _ => False } := by
  obtain ⟨sound, -, -, switches, heads⟩ := fits
  obtain ⟨circuit, stamp, hold, switch, -, settle⟩ := (PotRecord.sound_confirmed_iff (.inr (.inl quenching))).mp sound
  exact ⟨(PotRecord.sound_confirmed_iff (.inl rfl)).mpr
    ⟨circuit, stamp, hold, switch, by simp, by simpa [quenching] using settle⟩, by simp, by simp, switches, heads⟩

/-- The settling of a pot runs out (R55). -/
theorem PotRecord.Fits.requeued (fits : r.Fits x) (settling : r.ae = .settling) :
    PotRecord.Fits { r with ae := .waiting, aeClass := .escalated, settleStamp := none } { x with waits := True } := by
  obtain ⟨sound, -, holds, switches, heads⟩ := fits
  obtain ⟨circuit, stamp, hold, switch, slot, -⟩ := (PotRecord.sound_confirmed_iff (.inr (.inr settling))).mp sound
  exact ⟨(PotRecord.sound_confirmed_iff (.inl rfl)).mpr
    ⟨circuit, stamp, hold, switch, by simpa [settling] using slot, by simp⟩, by simp, holds, switches, heads⟩

/-- A confirmed effect ends, the pot's claim released (R36). -/
theorem PotRecord.Fits.ended (fits : r.Fits x) (confirmed : r.ae = .waiting ∨ r.ae = .quenching ∨ r.ae = .settling)
    (seconds : Nat) :
    (r.released.effectEnded seconds).Fits { x with waits := False, holds := fun _ => False } := by
  obtain ⟨sound, -, -, switches, heads⟩ := fits
  obtain ⟨circuit, -, -, switch, -, -⟩ := (PotRecord.sound_confirmed_iff confirmed).mp sound
  have unswitched : (r.released.effectEnded seconds).switch = none := switch
  refine ⟨(PotRecord.sound_quiet_iff rfl).mpr ⟨rfl, rfl, rfl, rfl, fun _ => circuit, ?_, ?_⟩, ?_, ?_, switches, heads⟩
  · simp [unswitched]
  · simp [unswitched]
  · simp [PotRecord.effectEnded]
  · simp [PotRecord.effectEnded, PotRecord.released]

/-- A switching operation of a pot without an effect is asked for (R67). -/
theorem PotRecord.Fits.switching (fits : r.Fits x) (quiet : r.ae = .none) {d : Direction} (circuit : r.circuit = d.from)
    {phase : SwitchPhase} {first : Prop} (placed : first ↔ phase ≠ .queued) (now : Nat) :
    PotRecord.Fits { r with switch := some ⟨d, phase, now⟩ } { x with switches := True, heads := first } := by
  obtain ⟨sound, waits, holds, -, -⟩ := fits
  obtain ⟨stamp, slot, settle, cls, hold, -, -⟩ := (PotRecord.sound_quiet_iff quiet).mp sound
  refine ⟨(PotRecord.sound_quiet_iff (r := { r with switch := some ⟨d, phase, now⟩ }) quiet).mpr
    ⟨stamp, slot, settle, cls, hold, ?_, ?_⟩, waits, holds, by simp, ?_⟩
  · simp only [Option.some.injEq, forall_eq']
    rintro rfl
    exact circuit
  · simp only [Option.some.injEq, forall_eq']
    rintro rfl
    exact circuit
  · simpa using placed

/-- The head of the switch queue opens (R70). -/
theorem PotRecord.Fits.opened (fits : r.Fits x) {w : SwitchRecord} (switched : r.switch = some w) (heads : x.heads)
    (now : Nat) : PotRecord.Fits { r with switch := some { w with phase := .opened, stamp := now } } x := by
  obtain ⟨sound, waits, holds, switches, -⟩ := fits
  refine ⟨⟨sound.effectIn, sound.startStamp, sound.slot, sound.settle, sound.startHold, sound.escalated,
    fun _ => sound.switchEffect (by simp [switched]), ?_, ?_⟩, waits, holds, by simpa [switched] using switches, ?_⟩
  · simpa using sound.switchIn w switched
  · simpa using sound.switchOut w switched
  · simpa using heads

/-- A cut-in completed (R21, R74): the pot was OUT, so it had no effect. -/
theorem PotRecord.Fits.cutIn (fits : r.Fits x) {w : SwitchRecord} (switched : r.switch = some w)
    (direction : w.direction = .cutIn) (voltage resistance : Nat) (hold : Option Nat) (result : SwitchResult) :
    PotRecord.Fits
      { r with
        circuit := .inCircuit, voltage := voltage, resistance := resistance, startHoldEnd := hold, switch := none
        lastSwitch := result }
      { x with switches := False, heads := False } := by
  obtain ⟨sound, waits, holds, -, -⟩ := fits
  have out := sound.switchIn w switched direction
  have quiet : r.ae = .none := by
    by_contra effect
    simp [sound.effectIn effect] at out
  obtain ⟨stamp, slot, settle, cls, -, -, -⟩ := (PotRecord.sound_quiet_iff quiet).mp sound
  exact ⟨(PotRecord.sound_quiet_iff (by exact quiet)).mpr
    ⟨stamp, slot, settle, cls, fun _ => rfl, by simp, by simp⟩, waits, holds, by simp, by simp⟩

/-- A cut-out completed (R22, R74): an effect that is not confirmed ends with it. -/
theorem PotRecord.Fits.cutOut (fits : r.Fits x) (switched : r.switch.isSome = true) (result : SwitchResult) :
    PotRecord.Fits { r.cutOut with switch := none, lastSwitch := result } { x with switches := False, heads := False } := by
  obtain ⟨absent, slot, settle⟩ := fits.unclaimed switched
  exact ⟨(PotRecord.sound_quiet_iff (by rfl)).mpr ⟨rfl, slot, settle, rfl, by simp [PotRecord.cutOut], by simp, by simp⟩,
    by simpa [PotRecord.cutOut] using absent, fits.holds, by simp, by simp⟩

end Records

/-! ### Two places of one pot -/

theorem State.holds_unique {q k : Nat} (one : (s.place p).holds k) (other : (s.place q).holds k) : q = p :=
  Option.some.inj (other.symm.trans one)

/-- A pot without a switch record stands nowhere in the switch queue. -/
theorem State.PotFits.place_unswitched (fits : s.PotFits p) (unswitched : (s.pot p).switch = none) :
    s.place p = { s.place p with switches := False, heads := False } := by
  have absent : ¬ (s.place p).switches := fun member => by
    have switched := fits.switches.mp member
    simp [unswitched] at switched
  have notHead : ¬ (s.place p).heads := fun head => absent (List.mem_of_mem_head? head)
  exact congrArg₂ (fun a b => { s.place p with switches := a, heads := b }) (eq_false absent) (eq_false notHead)

theorem State.PotFits.absent (fits : s.PotFits p) (other : (s.pot p).ae ≠ .waiting) : p ∉ s.quench.queue :=
  fun member => other (fits.waits.mp member)

/-! ### The Quench Arbiter (R47, R53 to R56) -/

theorem State.ArrangedBeside.raise (beside : s.ArrangedBeside order p) (source : Source) (detail : Nat) :
    (s.raise source detail).ArrangedBeside order p :=
  beside.of_others (beside.queues.congr rfl rfl rfl) (fun _ _ => ⟨rfl, rfl⟩) rfl (List.Sublist.refl _)

/-- The slot a QUENCHING pot holds made FREE, and any record written for the pot. -/
theorem State.Arranged.release (arranged : s.Arranged order) {k : Nat} (named : (s.pot p).slot = some k)
    (r : PotRecord) :
    ((s.putSlot k none).putPot p r).ArrangedBeside order p ∧
      ((s.putSlot k none).putPot p r).place p = { s.place p with holds := fun _ => False } ∧
      ((s.putSlot k none).putPot p r).pot p = r := by
  have fits : s.PotFits p := arranged.fits p
  have quenching := fits.sound.quenching_of_slot named
  have holds : (s.place p).holds k := (fits.holds k).mpr named
  refine ⟨((arranged.beside p).freeSlot k fun q other => State.holds_unique holds other).putPot r, ?_,
    State.pot_putPot_same _ p r (State.isPosition_of_effect quenching)⟩
  refine State.putSlot_place s p k fun j other => ?_
  have same := (fits.holds j).mp other
  rwa [named, Option.some.injEq, eq_comm] at same

theorem State.Arranged.endQuench (arranged : s.Arranged order) (quenching : (s.pot p).ae = .quenching) :
    (s.endQuench p).Arranged order := by
  have fits : s.PotFits p := arranged.fits p
  obtain ⟨k, named⟩ := Option.isSome_iff_exists.mp (fits.sound.slot.mpr quenching)
  let r : PotRecord := { s.pot p with ae := .settling, slot := none, settleStamp := some s.now }
  have whole : s.endQuench p = (s.putSlot k none).putPot p r := by
    simp only [State.endQuench, State.freeSlotOf, named, r]
  obtain ⟨beside, place, record⟩ := arranged.release named r
  rw [whole]
  refine beside.close ?_ (fits.absent (by simp [quenching]))
  unfold State.PotFits
  rw [place, record]
  exact PotRecord.Fits.settled fits quenching s.now

theorem State.Arranged.permitExpired (arranged : s.Arranged order) {k : Nat} (named : (s.pot p).slot = some k) :
    (s.permitExpired k p).Arranged order := by
  have fits : s.PotFits p := arranged.fits p
  have quenching := fits.sound.quenching_of_slot named
  obtain ⟨beside, place, record⟩ := arranged.release named
    { s.pot p with ae := .waiting, slot := none, overruns := saturate 255 ((s.pot p).overruns + 1) }
  refine (beside.raise .quenchOverrun p).enter (fits.absent (by simp [quenching])) ?_
  rw [State.raise_pot, State.raise_place, place, record]
  exact PotRecord.Fits.revoked fits quenching _

theorem State.Arranged.settleExpired (arranged : s.Arranged order) (settling : (s.pot p).ae = .settling) :
    (s.settleExpired p).Arranged order := by
  have fits : s.PotFits p := arranged.fits p
  refine ((arranged.beside p).putPot _).enter (fits.absent (by simp [settling])) ?_
  rw [State.pot_putPot_same s p _ (State.isPosition_of_effect settling)]
  exact PotRecord.Fits.requeued fits settling

/-! ### The watch (R30 to R37) -/

/-- An escalated pot that waits leaves the queue and enters it again by its new class (R37). -/
theorem State.Arranged.escalate (arranged : s.Arranged order)
    (confirmed : (s.pot p).ae = .waiting ∨ (s.pot p).ae = .quenching ∨ (s.pot p).ae = .settling) :
    (s.escalate p).Arranged order := by
  have fits : s.PotFits p := arranged.fits p
  have known : isPosition p = true := by
    rcases confirmed with h | h | h <;> exact State.isPosition_of_effect h
  let r : PotRecord := { s.pot p with aeClass := .escalated }
  have escalated : r.Fits (s.place p) := PotRecord.Fits.escalated fits confirmed
  let u := (s.putPot p r).raise .aeEscalated p
  have record : u.pot p = r := State.pot_putPot_same s p r known
  have beside : u.ArrangedBeside order p := ((arranged.beside p).putPot r).raise .aeEscalated p
  unfold State.escalate
  dsimp only
  split
  · next waiting =>
    have own : (u.pot p).Fits { u.place p with waits := True } := by
      rw [record, ← eq_true (fits.waits.mpr waiting)]
      exact escalated
    refine State.Arranged.grantEvaluation (beside.leave.enter beside.queues.quenchOnce.not_mem_erase ?_)
    rw [State.leaveQuenchQueue_place u p beside.queues.quenchOnce]
    exact own
  · next other =>
    refine State.ArrangedBeside.close beside ?_ (fits.absent other)
    unfold State.PotFits
    rw [record]
    exact escalated

theorem State.ArrangedBeside.cancelByEffect (beside : s.ArrangedBeside order p) :
    (s.cancelByEffect p).ArrangedBeside order p := by
  rw [State.cancelByEffect_eq]
  split
  · exact beside
  · exact beside.endSwitch .aeCancelled

/-- A confirmation (R33): the switch record is cancelled, the pot enters the quench queue, and grants follow. -/
theorem State.Arranged.confirmEffect (arranged : s.Arranged order) (suspect : (s.pot p).ae = .suspect) :
    (s.confirmEffect p).Arranged order := by
  have fits : s.PotFits p := arranged.fits p
  have known : isPosition p = true := State.isPosition_of_effect suspect
  let r : PotRecord :=
    { s.pot p with ae := .waiting, aeCount := min ((s.pot p).aeCount + 1) 255, confirmStamp := some s.now }
  have record : (s.putPot p r).pot p = r := State.pot_putPot_same s p r known
  have once : (s.putPot p r).switching.queue.Nodup := arranged.queues.switchOnce
  have quench : ((s.putPot p r).cancelByEffect p).quench = s.quench := by
    rw [State.cancelByEffect_frame]
    rfl
  have place : ((s.putPot p r).cancelByEffect p).place p = { s.place p with switches := False, heads := False } := by
    rw [State.cancelByEffect_eq, record]
    split
    · next unswitched => exact fits.place_unswitched unswitched
    · exact State.endSwitch_place _ p _ once
  have entered : (((s.putPot p r).cancelByEffect p).enterQuenchQueue p).Arranged order := by
    refine ((arranged.beside p).putPot r).cancelByEffect.enter ?_ ?_
    · rw [quench]
      exact fits.absent (by simp [suspect])
    · rw [place, State.cancelByEffect_pot_same _ p known once, record]
      exact PotRecord.Fits.confirmed fits suspect _ _ _
  rw [State.confirmEffect_eq]
  exact (entered.of_view (State.raise_queueView _ .aeConfirmed p)).grantEvaluation

theorem State.Arranged.claimAgrees (arranged : s.Arranged order) (p : Nat) : s.ClaimAgrees p := by
  obtain ⟨sound, waits, holds, -, -⟩ := arranged.fits p
  exact ⟨arranged.queues.quenchOnce, waits, by simpa [Option.isSome_iff_ne_none] using sound.slot,
    by simpa [Option.isSome_iff_ne_none] using sound.settle, fun k _ => holds k⟩

theorem State.Arranged.releaseClaim (arranged : s.Arranged order) (confirmed : (s.pot p).ae.confirmed = true) :
    (s.releaseClaim p).ArrangedBeside order p := by
  have fits : s.PotFits p := arranged.fits p
  rcases (AeState.confirmed_iff _).mp confirmed with waiting | quenching | settling
  · rw [State.releaseClaim_waiting waiting]
    exact (arranged.beside p).leave
  · obtain ⟨k, named⟩ := Option.isSome_iff_exists.mp (fits.sound.slot.mpr quenching)
    rw [State.releaseClaim_quenching quenching named]
    obtain ⟨beside, -, -⟩ := arranged.release named { s.pot p with slot := none }
    exact beside.grantEvaluation (fits.absent (by simp [quenching]))
  · rw [State.releaseClaim_settling settling]
    exact (arranged.beside p).putPot _

theorem State.ClaimReleased.place (released : s.ClaimReleased t p) :
    t.place p = { s.place p with waits := False, holds := fun _ => False } := by
  unfold State.place
  rw [eq_false released.unqueued, released.switching]
  exact congrArg (fun h => Place.mk False h _ _) (funext fun k => eq_false (released.unslotted k))

/-- The end of an effect (R36): the pot has no claim on the Arbiter left, and its record says so. -/
theorem State.Arranged.endEffect (arranged : s.Arranged order) (confirmed : (s.pot p).ae.confirmed = true) :
    (s.endEffect p).Arranged order := by
  have fits : s.PotFits p := arranged.fits p
  have state := (AeState.confirmed_iff _).mp confirmed
  have known : isPosition p = true := by
    rcases state with h | h | h <;> exact State.isPosition_of_effect h
  have released := (arranged.claimAgrees p).released known confirmed
  rw [State.endEffect_of_released released]
  refine ((arranged.releaseClaim confirmed).putPot _).close (State.PotFits.putPot ?_ known) released.unqueued
  rw [released.place]
  exact PotRecord.Fits.ended fits state _

/-- Whatever the watch decides on the report of an IN pot (R29 to R36). -/
theorem State.Arranged.examineReport (arranged : s.Arranged order) (into : (s.pot p).circuit = .inCircuit) :
    (s.examineReport p).Arranged order := by
  have fits : (s.pot p).Fits (s.place p) := arranged.fits p
  by_cases quiet : (s.pot p).ae = .none
  · rw [State.examineReport_none quiet]
    split_ifs
    · exact arranged
    · exact arranged.putPot p _ (fits.suspected quiet into s.now) (by simp [quiet])
    · exact arranged
  by_cases suspect : (s.pot p).ae = .suspect
  · rw [State.examineReport_suspect suspect]
    split_ifs
    · exact arranged.putPot p _ (fits.cleared suspect) (by simp [suspect])
    · exact arranged
    · exact arranged.confirmEffect suspect
  have confirmed := AeState.confirmed_of_ne quiet suspect
  rw [State.examineReport_confirmed confirmed]
  split
  · exact arranged.endEffect confirmed
  · exact arranged

/-- An accepted report (R15). -/
theorem State.Arranged.acceptReport (arranged : s.Arranged order) (p v : Nat) : (s.acceptReport p v).Arranged order := by
  have stored : (s.putPot p (s.reportedRecord (s.pot p) v)).Arranged order :=
    arranged.putPot p _ ((arranged.fits p).of_watch rfl) fun _ => ⟨rfl, rfl⟩
  unfold State.acceptReport
  dsimp only
  split
  · next examined =>
    obtain ⟨into, -⟩ := examined
    have defined : (s.pot p).circuit ≠ .vacant := by simp [into]
    refine stored.examineReport ?_
    rw [State.pot_putPot_same s p _ (State.isPosition_of_defined defined)]
    exact into
  · exact stored

theorem State.Arranged.takeItems (arranged : s.Arranged order) (node : Nat) (items : List ReportItem) :
    (State.takeItems node items s).1.Arranged order := by
  induction items generalizing s with
  | nil => exact arranged
  | cons i rest ih =>
    refine ih ?_
    unfold State.takeItem
    dsimp only
    split
    · exact arranged.acceptReport _ _
    · exact arranged

/-! ### Switching (R67, R70, R74) -/

/-- A pot joins the end of the switch queue with its record (R67). -/
theorem State.Arranged.joinSwitchQueue (arranged : s.Arranged order) (d : Direction) {phase : SwitchPhase}
    (placed : s.switching.queue = [] ↔ phase ≠ .queued) (known : isPosition p = true) (quiet : (s.pot p).ae = .none)
    (unswitched : (s.pot p).switch = none) (circuit : (s.pot p).circuit = d.from)
    (room : s.switching.queue.length < 8) (mode : s.current.mode = .run) :
    ((s.putPot p { s.pot p with switch := some ⟨d, phase, s.now⟩ }).withSwitchQueue
      (s.switching.queue ++ [p])).Arranged order := by
  have fits : s.PotFits p := arranged.fits p
  have absent : p ∉ s.switching.queue := fun member => by
    have switched := fits.switches.mp member
    simp [unswitched] at switched
  have heads : ∀ q, (s.switching.queue ++ [p]).head? = some q ↔
      if q = p then s.switching.queue = [] else s.switching.queue.head? = some q := by
    intro q
    cases queue : s.switching.queue with
    | nil => simp [eq_comm]
    | cons head rest =>
      have differ : head ≠ p := by
        rintro rfl
        exact absent (by simp [queue])
      by_cases same : q = p <;> simp [same, differ]
  refine State.ArrangedBeside.close (p := p) ((arranged.beside p).of_others ⟨arranged.queues.quenchOnce,
    List.nodup_append.mpr ⟨arranged.queues.switchOnce, List.nodup_singleton p, ?_⟩, ?_, fun _ => mode⟩
    (fun q differ => ⟨State.pot_putPot_other s p q _ differ, ?_⟩) rfl (List.Sublist.refl _)) ?_
    (fits.absent (by simp [quiet]))
  · rintro a member b last rfl
    exact absent (List.mem_singleton.mp last ▸ member)
  · simpa using room
  · have switches : q ∈ s.switching.queue ++ [p] ↔ q ∈ s.switching.queue := by simp [differ]
    have heads := heads q
    rw [if_neg differ] at heads
    exact congrArg₂ (fun a b => { s.place q with switches := a, heads := b }) (propext switches) (propext heads)
  · have place : ((s.putPot p { s.pot p with switch := some ⟨d, phase, s.now⟩ }).withSwitchQueue
        (s.switching.queue ++ [p])).place p = { s.place p with switches := True, heads := s.switching.queue = [] } := by
      have switches : p ∈ s.switching.queue ++ [p] ↔ True := by simp
      have heads := heads p
      rw [if_pos rfl] at heads
      exact congrArg₂ (fun a b => { s.place p with switches := a, heads := b }) (propext switches) (propext heads)
    unfold State.PotFits
    rw [place, State.pot_congr (State.withSwitchQueue_pots _ _), State.pot_putPot_same s p _ known]
    exact PotRecord.Fits.switching fits quiet circuit placed s.now

theorem State.Arranged.startSwitch (arranged : s.Arranged order) (d : Direction) (known : isPosition p = true)
    (quiet : (s.pot p).ae = .none) (unswitched : (s.pot p).switch = none) (circuit : (s.pot p).circuit = d.from)
    (room : s.switching.queue.length < 8) (mode : s.current.mode = .run) : (s.startSwitch p d).Arranged order := by
  unfold State.startSwitch
  dsimp only
  split
  · next first =>
    exact State.Arranged.of_view (arranged.joinSwitchQueue d (by simpa using first) known quiet unswitched circuit room mode)
      (State.eventEvaluation_queueView _)
  · next later =>
    exact arranged.joinSwitchQueue d (by simpa using later) known quiet unswitched circuit room mode

/-- A completed switching operation (R74): the circuit change and the end of the switch record. -/
theorem State.Arranged.completeSwitch (arranged : s.Arranged order) (switched : (s.pot p).switch.isSome = true) :
    (s.completeSwitch p).Arranged order := by
  have fits : (s.pot p).Fits (s.place p) := arranged.fits p
  have known := State.isPosition_of_switch switched
  obtain ⟨w, named⟩ := Option.isSome_iff_exists.mp switched
  have ended : ∀ r : PotRecord, PotRecord.Fits { r with switch := none, lastSwitch := .completed }
      { s.place p with switches := False, heads := False } →
      ((s.putPot p r).endSwitch p .completed).Arranged order := by
    intro r own
    refine ((arranged.beside p).putPot r).endSwitch_close .completed known (fits.not_waits switched) ?_
    rwa [State.pot_putPot_same s p r known]
  refine State.Arranged.of_view (s := (s.applySwitch p).endSwitch p .completed) ?_ (State.raise_queueView _ _ _)
  unfold State.applySwitch
  rw [named]
  cases direction : w.direction with
  | cutIn =>
    simp only [direction]
    exact ended _ (fits.cutIn named direction s.voltageEstimate s.params.rNom s.newStartHold .completed)
  | cutOut =>
    simp only [direction]
    exact ended _ (fits.cutOut switched .completed)

theorem State.switchHead_iff {w : SwitchRecord} :
    s.switchHead = some (p, w) ↔ s.switching.queue.head? = some p ∧ (s.pot p).switch = some w := by
  unfold State.switchHead
  split
  · next empty => simp [empty]
  · next head rest queue =>
    simp only [queue, List.head?_cons, Option.some.injEq, Option.map_eq_some_iff, Prod.mk.injEq]
    constructor
    · rintro ⟨v, named, rfl, rfl⟩
      exact ⟨rfl, named⟩
    · rintro ⟨rfl, named⟩
      exact ⟨w, named, rfl, rfl⟩

/-- The comparison of a dispatch cycle opens the head's record at most (R70). -/
theorem State.Arranged.compareHead (arranged : s.Arranged order) : s.compareHead.Arranged order := by
  unfold State.compareHead
  split
  · next p w head =>
    obtain ⟨heads, named⟩ := State.switchHead_iff.mp head
    split
    · exact arranged.putPot p _ ((arranged.fits p).opened named heads s.now) fun _ => ⟨rfl, rfl⟩
    · exact arranged
  · exact arranged

end Sys2Proof.Machine
end

section
/-! PROOFS. Every step keeps the agreement of the queues, the slots and the records, and the order of the quench queue
(R28, R44, R46, R64, R69). -/

namespace Sys2Proof.Machine

section Steps

variable {order : Prop} {s t : State} {p : Nat}

/-! ### Servings that leave what the agreement reads -/

theorem State.serveAck_queueView (s : State) (code count : Nat) : (s.serveAck code count).1.queueView = s.queueView := by
  unfold State.serveAck
  dsimp only
  split <;> rfl

theorem State.serveSetMask_queueView (s : State) (marks : Nat) : (s.serveSetMask marks).1.queueView = s.queueView := by
  unfold State.serveSetMask
  split <;> rfl

theorem State.serveSetParam_queueView (s : State) (identifier value : Nat) :
    (s.serveSetParam identifier value).1.queueView = s.queueView := by
  unfold State.serveSetParam
  dsimp only [State.answer]
  split_ifs
  · exact State.eventEvaluation_queueView _
  · rfl
  · rfl

theorem State.serveReadParam_queueView (s : State) (identifier : Nat) :
    (s.serveReadParam identifier).1.queueView = s.queueView := by
  unfold State.serveReadParam
  split <;> rfl

theorem State.finishLoad_queueView (s : State) (h : TariffHeader) (working rest : Option (List ChangePoint)) :
    (s.finishLoad h working rest).1.queueView = s.queueView := by
  unfold State.finishLoad
  split <;> rfl

theorem State.serveLoadTariff_queueView (s : State) (part : TariffPart) (final : Bool) :
    (s.serveLoadTariff part final).1.queueView = s.queueView := by
  unfold State.serveLoadTariff
  split
  · split
    · rfl
    · cases part
      case header h => cases final; exacts [rfl, s.finishLoad_queueView h _ _]
      all_goals rfl
  · cases part
    case working => cases final; exacts [rfl, s.finishLoad_queueView _ _ _]
    all_goals rfl
  · cases part
    case rest => cases final; exacts [rfl, s.finishLoad_queueView _ _ _]
    all_goals rfl

theorem State.serveReadTariff_queueView (s : State) (selector : Nat) :
    (s.serveReadTariff selector).1.queueView = s.queueView := by
  unfold State.serveReadTariff
  split
  · rfl
  · split <;> rfl

theorem State.periodClosed_queueView (s : State) : s.periodClosed.queueView = s.queueView := by
  unfold State.periodClosed
  split <;> rfl

theorem State.serveSetClock_queueView (s : State) (time day : Nat) :
    (s.serveSetClock time day).1.queueView = s.queueView := by
  unfold State.serveSetClock
  split
  · rfl
  · exact State.periodClosed_queueView _

theorem State.serveCurtail_queueView (s : State) (limit minutes : Nat) :
    (s.serveCurtail limit minutes).1.queueView = s.queueView := by
  unfold State.serveCurtail
  split <;> rfl

theorem State.serveCancelCurtail_queueView (s : State) : s.serveCancelCurtail.1.queueView = s.queueView := by
  unfold State.serveCancelCurtail
  split <;> rfl

theorem State.serveAddNode_queueView (s : State) (address kind : Nat) :
    (s.serveAddNode address kind).1.queueView = s.queueView := by
  unfold State.serveAddNode
  split <;> rfl

theorem State.serveDropNode_queueView (s : State) (address : Nat) :
    (s.serveDropNode address).1.queueView = s.queueView := by
  unfold State.serveDropNode
  split
  · rfl
  · split <;> rfl

theorem State.serveReadPot_queueView (s : State) (p : Nat) : (s.serveReadPot p).1.queueView = s.queueView := by
  unfold State.serveReadPot
  split <;> rfl

theorem State.serveReadUnit_queueView (s : State) (u : Nat) : (s.serveReadUnit u).1.queueView = s.queueView := by
  unfold State.serveReadUnit
  split <;> rfl

theorem State.takeRange_queueView (s : State) (first count : Nat) :
    (s.takeRange first count).queueView = s.queueView := by
  unfold State.takeRange
  dsimp only
  split_ifs <;> rfl

theorem State.countMiss_queueView (s : State) : s.countMiss.queueView = s.queueView := by
  unfold State.countMiss
  dsimp only
  split
  · split <;> rfl
  · rfl

theorem State.replyEnded_queueView (s : State) : s.replyEnded.queueView = s.queueView := by
  rw [State.replyEnded_frame]
  rfl

/-! ### Units: a written unit record, raisings and an event evaluation -/

theorem State.tripUnit_queueView (s : State) (u : Nat) (cause : TripCause) :
    (s.tripUnit u cause).queueView = s.queueView :=
  State.eventEvaluation_queueView _

theorem State.loseUnit_queueView (s : State) (u : Nat) : (s.loseUnit u).queueView = s.queueView :=
  State.eventEvaluation_queueView _

theorem State.silenceUnit_queueView (s : State) (u : Nat) : (s.silenceUnit u).queueView = s.queueView := by
  unfold State.silenceUnit
  dsimp only
  split
  · exact State.eventEvaluation_queueView _
  · rfl

theorem State.raiseIf_queueView (s : State) (c : Bool) (source : Source) (detail : Nat) :
    (s.raiseIf c source detail).queueView = s.queueView := by
  unfold State.raiseIf
  split <;> rfl

theorem State.serveUnitReport_queueView (s : State) (node u measured temperature : Nat) (flowOk breakerClosed : Bool) :
    (s.serveUnitReport node u measured temperature flowOk breakerClosed).1.queueView = s.queueView := by
  unfold State.serveUnitReport State.acceptUnitReport
  dsimp only
  split
  · split
    · rw [State.eventEvaluation_queueView, State.raiseIf_queueView, State.raiseIf_queueView]
      rfl
    · rw [State.raiseIf_queueView, State.raiseIf_queueView]
      rfl
  · rfl

theorem State.serveTripUnit_queueView (s : State) (u : Nat) : (s.serveTripUnit u).1.queueView = s.queueView := by
  unfold State.serveTripUnit
  split_ifs
  · rfl
  · exact State.tripUnit_queueView s u _
  · rfl

theorem State.serveDefineUnit_queueView (s : State) (u node rated vMax tDerate tTrip : Nat) :
    (s.serveDefineUnit u node rated vMax tDerate tTrip).1.queueView = s.queueView := by
  unfold State.serveDefineUnit
  dsimp only
  split
  · exact State.eventEvaluation_queueView _
  · rfl

theorem State.serveRestoreUnit_queueView (s : State) (u : Nat) : (s.serveRestoreUnit u).1.queueView = s.queueView := by
  unfold State.serveRestoreUnit
  dsimp only
  split
  · exact State.eventEvaluation_queueView _
  · rfl

theorem State.serveRemoveUnit_queueView (s : State) (u : Nat) : (s.serveRemoveUnit u).1.queueView = s.queueView := by
  unfold State.serveRemoveUnit
  split_ifs
  · rfl
  · exact State.eventEvaluation_queueView _
  · rfl

/-! ### Requests -/

theorem State.Arranged.lineRequest (arranged : s.Arranged order) (serve : State → State × Reply)
    (served : ∀ t : State, t.Arranged order → (serve t).1.Arranged order) : (s.lineRequest serve).Arranged order :=
  State.lineRequest_keeps (State.Arranged order) s serve arranged (fun _ kept => kept.of_view rfl) served
    (fun _ _ _ kept => kept.of_view rfl)

theorem State.Arranged.fieldRequest (arranged : s.Arranged order) (kinds : List NodeKind)
    (serve : Nat → State → State × Reply)
    (served : ∀ node (t : State), t.Arranged order → (serve node t).1.Arranged order) :
    (s.fieldRequest kinds serve).Arranged order :=
  State.fieldRequest_keeps (State.Arranged order) s kinds serve arranged (fun _ kept => kept.of_view rfl) served
    (fun _ _ kept => kept.of_view rfl)

theorem State.lineRequest_queueView (s : State) (serve : State → State × Reply)
    (served : ∀ t, (serve t).1.queueView = t.queueView) : (s.lineRequest serve).queueView = s.queueView :=
  State.lineRequest_keeps (fun t => t.queueView = s.queueView) s serve rfl (fun _ kept => kept)
    (fun t kept => (served t).trans kept) (fun _ _ _ kept => kept)

theorem State.loadFrame_queueView (s : State) (serve : State → State × Reply)
    (served : ∀ t, (serve t).1.queueView = t.queueView) : (s.loadFrame serve).queueView = s.queueView :=
  State.loadFrame_keeps (fun t => t.queueView = s.queueView) s serve rfl (fun t kept => (served t).trans kept)
    (fun _ _ _ kept => kept)

theorem State.fieldRequest_queueView (s : State) (kinds : List NodeKind) (serve : Nat → State → State × Reply)
    (served : ∀ node t, (serve node t).1.queueView = t.queueView) :
    (s.fieldRequest kinds serve).queueView = s.queueView :=
  State.fieldRequest_keeps (fun t => t.queueView = s.queueView) s kinds serve rfl (fun _ kept => kept)
    (fun node t kept => (served node t).trans kept) (fun _ _ kept => kept)

/-! ### The requests of a pot controller (R52, R66, R73, R77) -/

theorem State.Arranged.serveQuenchEnd (arranged : s.Arranged order) (node p tag : Nat) :
    (s.serveQuenchEnd node p tag).1.Arranged order := by
  unfold State.serveQuenchEnd
  dsimp only
  split
  · next served =>
    refine (arranged.endQuench ?_).grantEvaluation
    by_contra other
    unfold State.quenchEndStatus at served
    split_ifs at served
    exact absurd served ‹_›
  · exact arranged

/-- What the checks of R66 have found of a request they accept. -/
theorem State.switchRequest_accepted {node tag direction : Nat} {d : Direction} (asked : directionOf direction = some d)
    (done : s.switchRequestStatus node p tag direction = .done) :
    isPosition p = true ∧ (s.pot p).ae = .none ∧ (s.pot p).switch = none ∧ (s.pot p).circuit = d.from ∧
      s.switching.queue.length < 8 ∧ s.current.mode = .run := by
  unfold State.switchRequestStatus at done
  rw [asked] at done
  dsimp only at done
  split_ifs at done with refused adopt hold circuit effect busy full
  · exact absurd done refused
  · obtain ⟨known, -⟩ := (State.identity_done_iff _ _ _ _).mp (not_not.mp refused)
    have mode : s.current.mode = .run := by cases m : s.current.mode <;> simp_all
    exact ⟨known, not_not.mp effect, Option.not_isSome_iff_eq_none.mp busy, not_not.mp circuit, not_le.mp full, mode⟩

theorem State.Arranged.serveSwitchRequest (arranged : s.Arranged order) (node p tag direction : Nat) :
    (s.serveSwitchRequest node p tag direction).1.Arranged order := by
  unfold State.serveSwitchRequest
  dsimp only
  split
  · next d done asked =>
    obtain ⟨known, quiet, unswitched, circuit, room, mode⟩ := State.switchRequest_accepted asked done
    exact arranged.startSwitch d known quiet unswitched circuit room mode
  · exact arranged

theorem State.Arranged.serveSwitchDone (arranged : s.Arranged order) (node p tag : Nat) :
    (s.serveSwitchDone node p tag).1.Arranged order := by
  unfold State.serveSwitchDone
  dsimp only
  split
  · next served =>
    refine arranged.completeSwitch ?_
    unfold State.switchDoneStatus at served
    split at served
    · next refused => exact absurd served refused
    · split at served
      · cases served
      · next switched => rw [switched]; rfl
  · exact arranged

theorem State.Arranged.serveSwitchCancel (arranged : s.Arranged order) (node p tag : Nat) :
    (s.serveSwitchCancel node p tag).1.Arranged order := by
  unfold State.serveSwitchCancel
  dsimp only
  split
  · next served =>
    refine arranged.endSwitch ?_ .cancelled
    unfold State.switchCancelStatus at served
    split_ifs at served with refused late
    · exact absurd served refused
    · simpa [Option.isSome_iff_ne_none] using late
  · exact arranged

/-! ### The requests of the line master (R8 to R11, R108 to R110) -/

/-- A record without effect, stamps and switch record takes the place of another such record. -/
theorem PotRecord.Fits.replaced {r q : PotRecord} {x : Place} (fits : r.Fits x) (quiet : r.ae = .none)
    (unswitched : r.switch = none) (same : q.watch = { PotRecord.empty with
      circuit := q.circuit, startHoldEnd := q.startHoldEnd })
    (hold : q.startHoldEnd.isSome = true → q.circuit = .inCircuit) : q.Fits x := by
  obtain ⟨sound, waits, holds, switches, -⟩ := fits
  obtain ⟨-, slot, -⟩ := (PotRecord.sound_quiet_iff quiet).mp sound
  refine (q.watch_fits_iff x).mp ?_
  rw [same]
  exact ⟨(PotRecord.sound_quiet_iff rfl).mpr ⟨rfl, rfl, rfl, rfl, hold, by simp [PotRecord.empty],
    by simp [PotRecord.empty]⟩, by simpa [quiet, PotRecord.empty] using waits, by simpa [slot, PotRecord.empty] using holds,
    by simpa [unswitched, PotRecord.empty] using switches, by simp [PotRecord.empty]⟩

theorem PotRecord.Sound.quiet_of_notIn {r : PotRecord} (sound : r.Sound) (out : r.circuit ≠ .inCircuit) : r.ae = .none := by
  by_contra effect
  exact out (sound.effectIn effect)

theorem PotRecord.Sound.unswitched_of_vacant {r : PotRecord} (sound : r.Sound) (vacant : r.circuit = .vacant) :
    r.switch = none := by
  cases switched : r.switch with
  | none => rfl
  | some w =>
    cases direction : w.direction
    · simp [sound.switchIn w switched direction] at vacant
    · simp [sound.switchOut w switched direction] at vacant

theorem State.Arranged.serveAdmit (arranged : s.Arranged order) (p tag owner initial : Nat) :
    (s.serveAdmit p tag owner initial).1.Arranged order := by
  have fits : (s.pot p).Fits (s.place p) := arranged.fits p
  unfold State.serveAdmit
  dsimp only
  split
  · next served =>
    have vacant : (s.pot p).circuit = .vacant := by
      by_contra defined
      unfold State.admitStatus at served
      split_ifs at served
    have quiet := fits.sound.quiet_of_notIn (by simp [vacant])
    have unswitched := fits.sound.unswitched_of_vacant vacant
    refine arranged.putPot p _ ?_ (by simp [quiet])
    split
    · exact fits.replaced quiet unswitched rfl fun _ => rfl
    · exact fits.replaced quiet unswitched rfl fun present => nomatch present
  · exact arranged

theorem State.Arranged.serveRetire (arranged : s.Arranged order) (p tag : Nat) :
    (s.serveRetire p tag).1.Arranged order := by
  have fits : (s.pot p).Fits (s.place p) := arranged.fits p
  unfold State.serveRetire
  dsimp only
  split
  · next served =>
    unfold State.retireStatus at served
    split_ifs at served with refused into switched
    · exact absurd served refused
    · have quiet := fits.sound.quiet_of_notIn into
      exact arranged.putPot p _ (fits.replaced quiet (Option.not_isSome_iff_eq_none.mp switched) rfl
        fun present => nomatch present) (by simp [quiet])
  · exact arranged

theorem State.Arranged.serveAssign (arranged : s.Arranged order) (p tag owner : Nat) :
    (s.serveAssign p tag owner).1.Arranged order := by
  unfold State.serveAssign
  dsimp only
  split_ifs
  · exact arranged
  · exact arranged
  · exact arranged
  · exact arranged
  · exact arranged.putPot p _ ((arranged.fits p).of_watch rfl) fun _ => ⟨rfl, rfl⟩

/-- A line mode in which the switch queue may stand as it does (R64). -/
theorem State.Arranged.withMode (arranged : s.Arranged order) (mode : LineMode)
    (allowed : mode = .run ∨ s.switching.queue = []) : (s.withMode mode).Arranged order := by
  obtain ⟨⟨quenchOnce, switchOnce, switchLength, -⟩, fits, ordered⟩ := arranged
  exact ⟨⟨quenchOnce, switchOnce, switchLength, allowed.resolve_right⟩, fits, ordered⟩

theorem State.Arranged.serveRun (arranged : s.Arranged order) : s.serveRun.1.Arranged order := by
  unfold State.serveRun
  split_ifs
  · exact arranged
  · exact arranged
  · exact (arranged.withMode .run (.inl rfl)).of_view (State.eventEvaluation_queueView _)

theorem State.Arranged.serveHold (arranged : s.Arranged order) : s.serveHold.1.Arranged order := by
  unfold State.serveHold
  split_ifs with other busy
  · exact arranged
  · exact arranged
  · exact (arranged.withMode .hold (.inr (not_not.mp busy))).of_view (State.eventEvaluation_queueView _)

theorem State.Arranged.serveResume (arranged : s.Arranged order) : s.serveResume.1.Arranged order := by
  unfold State.serveResume
  split_ifs
  · exact arranged
  · exact (arranged.withMode .run (.inl rfl)).of_view (State.eventEvaluation_queueView _)

/-! ### The metering tick (R134, R41) -/

/-- Every pot that waits has a start stamp of an age that still grows by one at the next advance of the line-seconds value
(R134). -/
structure State.StampsGrow (s : State) : Prop where
  now : s.meter.lineSeconds < 4294967296
  stamp : ∀ p ∈ s.quench.queue, ∀ stamp, (s.pot p).startStamp = some stamp →
    stamp < 4294967296 ∧ s.startAge p < 4294967295

/-- An age grows by one with the line-seconds value, until it has reached its greatest value. -/
theorem age_later {now stamp : Nat} (inRange : now < 4294967296) (before : stamp < 4294967296)
    (young : age now stamp < 4294967295) : age (later now 1) stamp = age now stamp + 1 := by
  unfold age later secondsModulus at *
  omega

theorem tget_mapIdx_const {α : Type} {n : Nat} (f : α → α) (d : α) (t : Vector α n) (k : Nat) (kept : f d = d) :
    tget d (t.mapIdx fun _ a => f a) k = f (tget d t k) := by
  cases k with
  | zero => exact kept.symm
  | succ k => by_cases inside : k < n <;> simp [tget, inside, kept]

/-- Counts cleared at midnight are none that the agreement reads (R41). -/
theorem State.calendarMoved_watch (s : State) (p : Nat) : (s.calendarMoved.pot p).watch = (s.pot p).watch := by
  unfold State.calendarMoved
  split
  · have cleared : s.clearDailyCounts.pot p = { s.pot p with aeCount := 0, aeSeconds := 0 } :=
      tget_mapIdx_const (fun r : PotRecord => { r with aeCount := 0, aeSeconds := 0 }) PotRecord.empty s.pots.table p rfl
    change (s.clearDailyCounts.pot p).watch = _
    rw [cleared]
    rfl
  · rfl

theorem State.calendarMoved_frame (s : State) :
    s.calendarMoved.quench = s.quench ∧ s.calendarMoved.switching = s.switching ∧
      s.calendarMoved.current = s.current ∧ s.calendarMoved.now = s.now := by
  unfold State.calendarMoved
  split <;> exact ⟨rfl, rfl, rfl, rfl⟩

theorem State.closeOrProject_queueView (s : State) : s.closeOrProject.queueView = s.queueView := by
  unfold State.closeOrProject
  split
  · exact State.periodClosed_queueView _
  · unfold State.project
    dsimp only
    split <;> rfl

theorem State.metered_now (s : State) (shed : Bool) : (s.metered shed).now = s.now := by
  unfold State.metered DemandMeter.curtailmentExpired
  dsimp only [State.now, State.withMeter, DemandMeter.credited]
  split
  · split <;> rfl
  · rfl

/-- What a tick leaves of what the agreement reads: everything but the line-seconds value, which advances. -/
theorem State.tick_watch (s : State) (shed : Bool) :
    let t := s.tick shed
    (∀ p, (t.pot p).watch = (s.pot p).watch) ∧ t.quench = s.quench ∧ t.switching = s.switching ∧
      t.current.mode = s.current.mode ∧ t.now = later s.now 1 := by
  let u := s.advanced.metered shed
  obtain ⟨quench, switching, current, now⟩ := u.calendarMoved_frame
  obtain ⟨pots, quench', switching', mode, now'⟩ := State.queueView_iff.mp u.calendarMoved.closeOrProject_queueView
  have advanced : u.now = later s.now 1 := State.metered_now s.advanced shed
  refine ⟨fun p => ?_, quench'.trans quench, switching'.trans switching, mode.trans (by rw [current]; rfl),
    now'.trans (now.trans advanced)⟩
  rw [State.tick, State.pot_congr pots, State.calendarMoved_watch]
  rfl

/-- A tick keeps the agreement: every age in the queue grows by one. -/
theorem State.Arranged.tick (arranged : s.Arranged order) (growing : order → s.StampsGrow) (shed : Bool) :
    (s.tick shed).Arranged order := by
  obtain ⟨watch, quench, switching, mode, now⟩ := s.tick_watch shed
  refine ⟨arranged.queues.congr (congrArg _ quench) switching mode, fun p => ?_, fun asked => ?_⟩
  · unfold State.PotFits
    rw [State.place_congr quench switching]
    exact (arranged.fits p).of_watch (watch p)
  · obtain ⟨inRange, stamps⟩ := growing asked
    have kept : ∀ p ∈ s.quench.queue, ((s.tick shed).pot p).aeClass = (s.pot p).aeClass ∧
        (s.tick shed).startAge p = s.startAge p + 1 := by
      intro p member
      have fits := arranged.fits p
      have waiting : (s.pot p).ae = .waiting := fits.waits.mp member
      obtain ⟨stamp, started⟩ := Option.isSome_iff_exists.mp (fits.sound.startStamp.mpr (by simp [waiting]))
      have started' : ((s.tick shed).pot p).watch.startStamp = some stamp := by
        rw [watch]
        exact started
      obtain ⟨before, young⟩ := stamps p member stamp started
      have cls : ((s.tick shed).pot p).watch.aeClass = (s.pot p).aeClass := by
        rw [watch]
        rfl
      refine ⟨cls, ?_⟩
      simp only [PotRecord.watch] at started'
      simp only [State.startAge, started, started', now] at young ⊢
      exact age_later inRange before young
    unfold State.QueueOrdered
    rw [quench]
    refine (arranged.ordered asked).imp_of_mem fun {a b} memberA memberB ahead => ?_
    obtain ⟨classA, ageA⟩ := kept a memberA
    obtain ⟨classB, ageB⟩ := kept b memberB
    rw [classA, classB, ageA, ageB]
    rcases ahead with escalated | ⟨same, older⟩
    · exact .inl escalated
    · exact .inr ⟨same, by omega⟩

/-! ### The commands that leave what the agreement reads -/

/-- The commands that change something the agreement reads. -/
def movesQueues : Instr → Bool
  | .reset | .dispatchCycle _ | .meteringTick _ | .dayRollover _ | .intervalClose _ | .curtailmentExpiry _
  | .potSilence _ | .startHoldExpiry _ | .escalation _ | .settleExpiry _ | .permitExpiry _ | .rampFailure
  | .windowExpiry | .potReport _ | .switchRequest _ _ _ | .switchDone _ _ | .switchCancel _ _ | .quenchEnd _ _
  | .admitPot _ _ _ _ | .retirePot _ _ | .assignOwner _ _ _ | .run | .hold | .resume => true
  | _ => false

/-- Every other command leaves what the agreement reads. -/
theorem exec_keeps_queueView (c : Instr) (s t : State) (other : movesQueues c = false) (done : exec c s = .next t) :
    t.queueView = s.queueView := by
  cases c <;> cases other <;> cases done
  case flowGraceExpiry unit => split; exacts [State.tripUnit_queueView s unit _, rfl]
  case unitSilence unit => split; exacts [State.silenceUnit_queueView s unit, rfl]
  case unitLoss unit => split; exacts [State.loseUnit_queueView s unit, rfl]
  case miss => split; exacts [State.countMiss_queueView s, rfl]
  case turn | idleTime | fieldFrameGap | lmFrameRefused | rangeFrameNext | lmReplyEnd => split <;> rfl
  case fieldFrameRefused =>
    dsimp only
    split
    · split <;> rfl
    · rfl
  case lmBreak | lmFrameGap | lmrxIdleReturn => rfl
  case unitReport => exact State.fieldRequest_queueView s _ _ fun _ t => t.serveUnitReport_queueView _ _ _ _ _ _
  case pass => exact State.fieldRequest_queueView s _ _ fun _ _ => rfl
  case readPotRange first count => exact s.takeRange_queueView first count
  case loadTariff part final => exact State.loadFrame_queueView s _ fun t => t.serveLoadTariff_queueView part final
  case readNodes | setTarget | readLine | readMeter | readPeriod | closePeriod | lockTariff | getAttention =>
    exact State.lineRequest_queueView s _ fun _ => rfl
  case readPot => exact State.lineRequest_queueView s _ fun t => t.serveReadPot_queueView _
  case defineUnit => exact State.lineRequest_queueView s _ fun t => t.serveDefineUnit_queueView _ _ _ _ _ _
  case removeUnit => exact State.lineRequest_queueView s _ fun t => t.serveRemoveUnit_queueView _
  case tripUnit => exact State.lineRequest_queueView s _ fun t => t.serveTripUnit_queueView _
  case restoreUnit => exact State.lineRequest_queueView s _ fun t => t.serveRestoreUnit_queueView _
  case readUnit => exact State.lineRequest_queueView s _ fun t => t.serveReadUnit_queueView _
  case addNode => exact State.lineRequest_queueView s _ fun t => t.serveAddNode_queueView _ _
  case dropNode => exact State.lineRequest_queueView s _ fun t => t.serveDropNode_queueView _
  case setParam => exact State.lineRequest_queueView s _ fun t => t.serveSetParam_queueView _ _
  case readParam => exact State.lineRequest_queueView s _ fun t => t.serveReadParam_queueView _
  case setClock => exact State.lineRequest_queueView s _ fun t => t.serveSetClock_queueView _ _
  case curtail => exact State.lineRequest_queueView s _ fun t => t.serveCurtail_queueView _ _
  case cancelCurtail => exact State.lineRequest_queueView s _ fun t => t.serveCancelCurtail_queueView
  case readTariff => exact State.lineRequest_queueView s _ fun t => t.serveReadTariff_queueView _
  case ackAttention => exact State.lineRequest_queueView s _ fun t => t.serveAck_queueView _ _
  case setAttentionMask => exact State.lineRequest_queueView s _ fun t => t.serveSetMask_queueView _

/-! ### The dispatch cycle (R48, R70, R112) -/

theorem State.Arranged.cycle (arranged : s.Arranged order) (arbiterFirst : Bool) :
    ((s.dividerAdvanced.cycleWork arbiterFirst).compareHead).Arranged order := by
  have advanced : s.dividerAdvanced.Arranged order := arranged.of_view rfl
  refine State.Arranged.compareHead ?_
  unfold State.cycleWork
  split
  · exact advanced.grantEvaluation.of_view (State.evaluate_queueView _ true)
  · exact (advanced.of_view (State.evaluate_queueView _ true)).grantEvaluation

/-! ### The examinations (R19, R31, R37, R55, R56, R71, R75) -/

theorem State.Arranged.potSilence (arranged : s.Arranged order) (done : exec (.potSilence p) s = .next t) :
    t.Arranged order := by
  cases done
  split
  · exact (arranged.putPot p { s.pot p with silent := true } ((arranged.fits p).of_watch rfl)
      fun _ => ⟨rfl, rfl⟩).of_view (State.raise_queueView _ .potSilent p)
  · exact arranged

theorem State.Arranged.startHoldExpiry (arranged : s.Arranged order) (done : exec (.startHoldExpiry p) s = .next t) :
    t.Arranged order := by
  cases done
  dsimp only
  split
  · exact arranged.putPot p _ (arranged.fits p).unheld fun _ => ⟨rfl, rfl⟩
  · exact arranged

theorem State.Arranged.escalation (arranged : s.Arranged order) (done : exec (.escalation p) s = .next t) :
    t.Arranged order := by
  cases done
  split
  · next due =>
    obtain ⟨confirmed, -⟩ := (State.escalationDue_iff s p).mp due
    exact arranged.escalate confirmed
  · exact arranged

theorem State.Arranged.settleExpiry (arranged : s.Arranged order) (done : exec (.settleExpiry p) s = .next t) :
    t.Arranged order := by
  cases done
  split
  · next due =>
    have settling : (s.pot p).ae = .settling := by
      by_contra other
      simp [State.settleDue_otherwise other] at due
    exact (arranged.settleExpired settling).grantEvaluation
  · exact arranged

theorem State.Arranged.permitExpiry (arranged : s.Arranged order) {k : Nat}
    (done : exec (.permitExpiry k) s = .next t) : t.Arranged order := by
  cases done
  split
  · next held inSlot =>
    split
    · have holds : (s.place held.position).holds k := by simp [State.place, inSlot]
      exact (arranged.permitExpired (((arranged.fits held.position).holds k).mp holds)).grantEvaluation
    · exact arranged
  · exact arranged

/-- The head's operation runs out (R71, R75). -/
theorem State.Arranged.expireSwitch (arranged : s.Arranged order) {w : SwitchRecord}
    (head : s.switchHead = some (p, w)) (result : SwitchResult) : (s.expireSwitch p result).Arranged order := by
  obtain ⟨-, named⟩ := State.switchHead_iff.mp head
  exact (arranged.endSwitch (by simp [named]) result).of_view (State.raise_queueView _ _ _)

/-- The examinations of the head of the switch queue. -/
theorem State.Arranged.headExamination (arranged : s.Arranged order) {c : Instr}
    (examines : c = .rampFailure ∨ c = .windowExpiry) (done : exec c s = .next t) : t.Arranged order := by
  rcases examines with rfl | rfl
  all_goals
    cases done
    split
    · next head =>
      split
      · exact arranged.expireSwitch head _
      · exact arranged
    · exact arranged

/-! ### Every command and every step -/

theorem exec_arranged (c : Instr) (s t : State) (arranged : s.Arranged order) (growing : order → s.StampsGrow)
    (done : exec c s = .next t) : t.Arranged order := by
  cases c with
  | reset =>
    cases done
    have after : State.reset.Arranged order :=
      (State.arranged_iff order _).mpr ⟨State.reset_queuesSound, fun _ => List.Pairwise.nil⟩
    exact after.of_view rfl
  | dispatchCycle arbiterFirst =>
    cases done
    exact arranged.cycle arbiterFirst
  | meteringTick shed =>
    cases done
    exact arranged.tick growing shed
  | dayRollover shed | intervalClose shed | curtailmentExpiry shed =>
    cases done
    split
    · exact arranged.tick growing shed
    · exact arranged
  | potSilence p => exact arranged.potSilence done
  | startHoldExpiry p => exact arranged.startHoldExpiry done
  | escalation p => exact arranged.escalation done
  | settleExpiry p => exact arranged.settleExpiry done
  | permitExpiry k => exact arranged.permitExpiry done
  | rampFailure => exact arranged.headExamination (.inl rfl) done
  | windowExpiry => exact arranged.headExamination (.inr rfl) done
  | potReport items =>
    cases done
    exact arranged.fieldRequest _ _ fun node _ kept => kept.takeItems node items
  | switchRequest p tag d =>
    cases done
    exact arranged.fieldRequest _ _ fun node _ kept => kept.serveSwitchRequest node p tag d
  | switchDone p tag =>
    cases done
    exact arranged.fieldRequest _ _ fun node _ kept => kept.serveSwitchDone node p tag
  | switchCancel p tag =>
    cases done
    exact arranged.fieldRequest _ _ fun node _ kept => kept.serveSwitchCancel node p tag
  | quenchEnd p tag =>
    cases done
    exact arranged.fieldRequest _ _ fun node _ kept => kept.serveQuenchEnd node p tag
  | admitPot p tag owner initial =>
    cases done
    exact arranged.lineRequest _ fun _ kept => kept.serveAdmit p tag owner initial
  | retirePot p tag =>
    cases done
    exact arranged.lineRequest _ fun _ kept => kept.serveRetire p tag
  | assignOwner p tag owner =>
    cases done
    exact arranged.lineRequest _ fun _ kept => kept.serveAssign p tag owner
  | run =>
    cases done
    exact arranged.lineRequest _ fun _ kept => kept.serveRun
  | hold =>
    cases done
    exact arranged.lineRequest _ fun _ kept => kept.serveHold
  | resume =>
    cases done
    exact arranged.lineRequest _ fun _ kept => kept.serveResume
  | _ => exact arranged.of_view (exec_keeps_queueView _ s t rfl done)

theorem step_arranged (s t : State) (arranged : s.Arranged order) (growing : order → s.StampsGrow)
    (done : step s = .next t) : t.Arranged order := by
  cases front : s.pending with
  | nil =>
    rw [step_idle s front] at done
    cases done
    exact arranged.of_view s.replyEnded_queueView
  | cons c rest =>
    rw [step_waiting s c rest front] at done
    exact exec_arranged c (s.withPending rest) t (arranged.of_view rfl)
      (fun asked => ⟨(growing asked).now, (growing asked).stamp⟩) done

end Steps

/-- Settles O18: the agreement without the order of the quench queue. -/
theorem queuesAndSlotsMatchRecords : Obligations.QueuesAndSlotsMatchRecords := by
  intro s t sound done
  have arranged : s.Arranged False := (State.arranged_iff False s).mpr ⟨sound, False.elim⟩
  exact ((State.arranged_iff False t).mp (step_arranged s t arranged False.elim done)).1

/-- Settles O19: the agreement with the order of the quench queue. -/
theorem quenchQueueStaysOrdered : Obligations.QuenchQueueStaysOrdered := by
  intro s t sound ordered now stamps done
  have arranged : s.Arranged True := (State.arranged_iff True s).mpr ⟨sound, fun _ => ordered⟩
  exact ((State.arranged_iff True t).mp (step_arranged s t arranged (fun _ => ⟨now, stamps⟩) done)).2 trivial

end Sys2Proof.Machine
end

section
/-! PROOFS. QUENCH END (R52, R53, R190). -/

namespace Sys2Proof.Machine

open Sys2Proof.Claims

theorem State.identity_refused {s : State} {node : Option Nat} {p tag : Nat} (refused : s.identity node p tag ≠ .done) :
    s.identity node p tag = .noRecord ∨ s.identity node p tag = .owner ∨ s.identity node p tag = .stale := by
  unfold State.identity at *
  split_ifs at * <;> simp_all

/-- QUENCH END answered: the refusals of R52 in their order, and the served request with the state it leaves (R53, R190). -/
theorem State.serveQuenchEnd_eq (s : State) (node p tag : Nat) :
    s.serveQuenchEnd node p tag =
      gate s (some node) p tag (fun status => (s, Reply.served status [0, 0, 0]))
        (if s.current.mode = .adopt then
          (s, Reply.served .notReady (be 1 (s.pot p).ae.code ++ be 2 (s.slotOrPlace p)))
        else if (s.pot p).ae ≠ .quenching then
          (s, Reply.served .late (be 1 (s.pot p).ae.code ++ be 2 (s.slotOrPlace p)))
        else
          ((s.endQuench p).grantEvaluation, Reply.served .done
            (be 1 ((s.endQuench p).grantEvaluation.pot p).ae.code ++
              be 2 ((s.endQuench p).grantEvaluation.slotOrPlace p)))) := by
  rw [State.gate_identity]
  unfold State.serveQuenchEnd State.quenchEndStatus State.quenchEndPayload
  by_cases passed : s.identity (some node) p tag = .done
  · by_cases adopt : s.current.mode = .adopt
    · simp [passed, adopt]
    · by_cases quenching : (s.pot p).ae = .quenching <;> simp [passed, adopt, quenching]
  · rcases State.identity_refused passed with status | status | status <;> simp [status, be_zero]

/-- Settles O17: the node's ring entry, which has answered, is all that the request finds changed. -/
theorem quenchEndFreesSlot : Obligations.QuenchEndFreesSlot := by
  intro s turn p tag window
  have taken := State.fieldRequest_of_window window [.potNode] (by simp) fun node t => t.serveQuenchEnd node p tag
  refine congrArg Host.Outcome.next (taken.trans ?_)
  rw [State.serveQuenchEnd_eq, State.gate_identity, State.gate_identity]
  have passes : s.nodeAnswered.identity (some turn.address) p tag = s.identity (some turn.address) p tag := rfl
  have mode : s.nodeAnswered.current.mode = s.current.mode := rfl
  have record : s.nodeAnswered.pot p = s.pot p := rfl
  rw [passes, mode, record]
  split_ifs <;> rfl

end Sys2Proof.Machine
end

section
/-! PROOFS. A grant evaluation: the grants it makes, where it ends, and what it leaves (R48 to R51). -/

namespace Sys2Proof.Machine

open Sys2Proof.Claims

/-! ### Where a grant evaluation ends -/

/-- No grant can be made: the queue is empty, no slot is FREE, or the head fails the test (R48). -/
def State.GrantsNothing (s : State) : Prop :=
  s.quench.queue = [] ∨ s.freeSlot = none ∨ s.grantTest = false

theorem State.vlim_eq (s : State) (k : Nat) : vlim s k = s.voltageLimit k := rfl

theorem State.freeSlot_eq_none_iff (s : State) : s.freeSlot = none ↔ ∀ k ∈ [1, 2, 3, 4], s.slot k ≠ none := by
  simp only [State.freeSlot, List.find?_eq_none, Option.isNone_iff_eq_none, ne_eq]

theorem State.grantTest_iff (s : State) :
    s.grantTest = true ↔ s.heldSlots = 0 ∨ s.params.iFloor ≤ vlim s (s.heldSlots + 1) := by
  simp [State.grantTest, State.vlim_eq]

/-- The words of the statements for it. -/
theorem State.grantsNothing_iff (s : State) :
    s.GrantsNothing ↔ s.quench.queue = [] ∨ (∀ k ∈ [1, 2, 3, 4], s.slot k ≠ none) ∨
      (s.heldSlots ≠ 0 ∧ vlim s (s.heldSlots + 1) < s.params.iFloor) := by
  rw [State.GrantsNothing, State.freeSlot_eq_none_iff, ← Bool.not_eq_true, State.grantTest_iff, not_or, not_le]

theorem State.heldSlots_le (s : State) : s.heldSlots ≤ 4 := by
  have few := List.countP_le_length (p := Option.isSome) (l := s.quench.slots.toList)
  rwa [Vector.length_toList] at few

theorem State.freeSlot_of_full {s : State} (full : 4 ≤ s.heldSlots) : s.freeSlot = none := by
  have all : ∀ v ∈ s.quench.slots.toList, v.isSome = true := by
    refine List.countP_eq_length.mp ?_
    rw [Vector.length_toList]
    exact le_antisymm s.heldSlots_le full
  rw [State.freeSlot_eq_none_iff]
  intro k number
  simp only [List.mem_cons, List.not_mem_nil, or_false] at number
  exact Option.isSome_iff_ne_none.mp (all _ (tget_mem none s.quench.slots k (by omega) (by omega)))

theorem State.grant_heldSlots {s : State} {k : Nat} (free : s.freeSlot = some k) (p : Nat) :
    (s.grant p k).heldSlots = s.heldSlots + 1 := by
  obtain ⟨low, high, empty⟩ := State.freeSlot_free free
  have before : tget none s.quench.slots k = none := empty
  unfold State.heldSlots
  rw [State.grant_quench, countP_tput _ none _ _ _ low high, before]
  simp

theorem State.grants_of_able {s : State} (able : ¬ s.GrantsNothing) :
    ∃ p rest k, s.quench.queue = p :: rest ∧ s.freeSlot = some k ∧ s.grantTest = true := by
  simp only [State.GrantsNothing, not_or, Bool.not_eq_false] at able
  obtain ⟨waiting, free, passes⟩ := able
  obtain ⟨p, rest, queue⟩ := List.exists_cons_of_ne_nil waiting
  obtain ⟨k, free⟩ := Option.ne_none_iff_exists'.mp free
  exact ⟨p, rest, k, queue, free, passes⟩

theorem State.grantLoop_grants {s : State} {p k : Nat} {rest : List Nat} (queue : s.quench.queue = p :: rest)
    (free : s.freeSlot = some k) (passes : s.grantTest = true) (n : Nat) :
    State.grantLoop (n + 1) s = State.grantLoop n (s.grant p k) := by
  simp only [State.grantLoop, queue, free, passes, if_true]

theorem State.grantLoop_idle {s : State} (idle : s.GrantsNothing) (n : Nat) : State.grantLoop n s = s := by
  cases n with
  | zero => rfl
  | succ n =>
    unfold State.grantLoop
    split
    · next queue free =>
      have fails : s.grantTest = false := by simpa [State.GrantsNothing, queue, free] using idle
      rw [fails]
      rfl
    · rfl

/-- A loop of enough grants goes on until no grant can be made. -/
theorem State.grantLoop_ends (n : Nat) (s : State) (enough : 4 ≤ s.heldSlots + n) :
    (State.grantLoop n s).GrantsNothing := by
  induction n generalizing s with
  | zero => exact .inr (.inl (State.freeSlot_of_full enough))
  | succ n ih =>
    by_cases idle : s.GrantsNothing
    · rwa [State.grantLoop_idle idle]
    · obtain ⟨p, rest, k, queue, free, passes⟩ := State.grants_of_able idle
      rw [State.grantLoop_grants queue free passes]
      refine ih _ ?_
      rw [State.grant_heldSlots free]
      omega

/-- A loop goes on where a shorter one has stopped. -/
theorem State.grantLoop_add (n m : Nat) (s : State) :
    State.grantLoop (n + m) s = State.grantLoop m (State.grantLoop n s) := by
  induction n generalizing s with
  | zero => rw [Nat.zero_add]; rfl
  | succ n ih =>
    by_cases idle : s.GrantsNothing
    · rw [State.grantLoop_idle idle, State.grantLoop_idle idle, State.grantLoop_idle idle]
    · obtain ⟨p, rest, k, queue, free, passes⟩ := State.grants_of_able idle
      rw [Nat.succ_add, State.grantLoop_grants queue free passes, State.grantLoop_grants queue free passes, ih]

/-- A head that passes the test is granted the lowest-numbered FREE slot, and the evaluation of what is left follows: after
three turns more of the loop no grant can be made. -/
theorem State.grantEvaluation_head {s : State} {p k : Nat} {rest : List Nat} (queue : s.quench.queue = p :: rest)
    (free : s.freeSlot = some k) (passes : s.grantTest = true) :
    s.grantEvaluation = (s.grant p k).grantEvaluation := by
  have ends : (State.grantLoop 3 (s.grant p k)).GrantsNothing := by
    refine State.grantLoop_ends 3 _ ?_
    rw [State.grant_heldSlots free]
    omega
  calc s.grantEvaluation
      = State.grantLoop 3 (s.grant p k) := State.grantLoop_grants queue free passes 3
    _ = State.grantLoop 1 (State.grantLoop 3 (s.grant p k)) := (State.grantLoop_idle ends 1).symm
    _ = (s.grant p k).grantEvaluation := (State.grantLoop_add 3 1 _).symm

/-! ### What a grant evaluation takes from the queue, and what it leaves -/

theorem State.grantLoop_queue (n : Nat) (s : State) :
    ∃ m, m ≤ n ∧ (State.grantLoop n s).quench.queue = s.quench.queue.drop m := by
  induction n generalizing s with
  | zero => exact ⟨0, le_rfl, rfl⟩
  | succ n ih =>
    unfold State.grantLoop
    split
    · next p rest k queue free =>
      split
      · obtain ⟨m, few, left⟩ := ih (s.grant p k)
        refine ⟨m + 1, by omega, left.trans ?_⟩
        rw [State.grant_quench, queue, List.erase_cons_head, List.drop_succ_cons]
      · exact ⟨0, by omega, rfl⟩
    · exact ⟨0, by omega, rfl⟩

/-- The parts that an evaluation or a grant evaluation can write, of a state that it leads to. -/
theorem State.SameLinks.frame {s t : State} (same : s.SameLinks t) :
    t = { s with
      pots := t.pots, quench := t.quench, units := t.units, attention := t.attention
      current := { s.current with
        setpoint := t.current.setpoint, governing := t.current.governing, limits := t.current.limits } } := by
  obtain ⟨switching, meter, tariff, field, port, pending, mode, target, params⟩ := same
  simp only [← switching, ← meter, ← tariff, ← field, ← port, ← pending, ← mode, ← target, ← params]

/-- The lines of the Register carry the line sums (R23). -/
theorem PotRegister.sums_of_line {g h : PotRegister} (same : h.line = g.line) :
    h.nIn = g.nIn ∧ h.nOut = g.nOut ∧ h.sumR = g.sumR ∧ h.sumV = g.sumV := by
  have nIn := congrArg PotRegister.nIn same
  have nOut := congrArg PotRegister.nOut same
  have sumR := congrArg PotRegister.sumR same
  have sumV := congrArg PotRegister.sumV same
  exact ⟨nIn, nOut, sumR, sumV⟩

/-! ### The grant in the words of the statements -/

theorem State.freeSlot_lowest {s : State} {k : Nat} (low : 1 ≤ k) (high : k ≤ 4) (free : s.slot k = none)
    (lowest : ∀ j ∈ [1, 2, 3, 4], j < k → s.slot j ≠ none) : s.freeSlot = some k := by
  have held : ∀ j ∈ [1, 2, 3, 4], j < k → (s.slot j).isNone = false := fun j number below => by
    simpa [Option.isSome_iff_ne_none] using lowest j number below
  unfold State.freeSlot
  interval_cases k <;> simp [List.find?, held, free]

theorem State.granted_eq {s : State} {p : Nat} {rest : List Nat} (queue : s.quench.queue = p :: rest) (k : Nat) :
    granted s p k = s.grant p k := by
  have left : s.quench.queue.drop 1 = s.quench.queue.erase p := by
    rw [queue, List.erase_cons_head]
    rfl
  unfold granted
  rw [left]
  rfl

/-- Settles O16: the evaluation goes grant by grant, each of them to the head, until no grant can be made. -/
theorem grantEvaluationServesTheHead : Obligations.GrantEvaluationServesTheHead := by
  refine ⟨fun s => ?_, fun s p k rest first last low high queue absent free lowest test => ?_,
    fun s p k rest low high queue free lowest test => ?_, fun s idle => ?_⟩
  · have grants := s.grantEvaluation_byGrants
    refine ⟨State.grantLoop_queue 4 s, ?_, fun k held => ?_, grants.outside, grants.links.frame,
      PotRegister.sums_of_line s.grantEvaluation_line⟩
    · exact (State.grantsNothing_iff _).mp (State.grantLoop_ends 4 s (by omega))
    · obtain ⟨h, inSlot⟩ := Option.ne_none_iff_exists'.mp held
      rw [inSlot, grants.slotKept k h inSlot]
  · have known : isPosition p = true := (isPosition_iff p).mpr ⟨first, last⟩
    have whole := State.grantEvaluation_head queue (State.freeSlot_lowest low high free lowest)
      (s.grantTest_iff.mpr test)
    have grants := (s.grant p k).grantEvaluation_byGrants
    have left : p ∉ (s.grant p k).quench.queue := by
      rw [State.grant_quench, queue, List.erase_cons_head]
      exact absent
    rw [← whole] at grants
    exact ⟨(grants.outside p left).trans (State.grant_pot_same s p k known),
      grants.slotKept k _ (State.grant_slot_same s p k low high), grants.absent left⟩
  · rw [State.granted_eq queue]
    exact State.grantEvaluation_head queue (State.freeSlot_lowest low high free lowest) (s.grantTest_iff.mpr test)
  · exact State.grantEvaluation_idle s ((State.grantsNothing_iff s).mpr idle)

end Sys2Proof.Machine
end

section
/-! PROOFS. The order of the two works of a dispatch cycle (R48, R112): states that differ only in what an evaluation sets
grant alike, and the setpoint after a run of grants is one bounded movement whichever work is taken first. -/

namespace Sys2Proof.Machine

/-! ### What a split sets (R125 to R127) -/

/-- A unit record but for what a split sets: the demand of an eligible unit. -/
def UnitRecord.unsplit (r : UnitRecord) : UnitRecord :=
  { r with demand := if r.eligible then 0 else r.demand }

def State.unsplitUnits (s : State) : Vector UnitRecord 8 :=
  s.units.map UnitRecord.unsplit

theorem UnitRecord.unsplit_frozenShare (r : UnitRecord) : r.unsplit.frozenShare = r.frozenShare := by
  have frozen : r.unsplit.heldFrozen = r.heldFrozen := rfl
  unfold UnitRecord.frozenShare
  rw [frozen]
  split
  · next held =>
    have notEligible : r.eligible = false := by
      simp only [UnitRecord.heldFrozen, Bool.and_eq_true] at held
      simp [UnitRecord.eligible, held]
    simp [UnitRecord.unsplit, notEligible]
  · rfl

section States

variable {s t : State}

theorem State.sum_of_unsplit (same : t.unsplitUnits = s.unsplitUnits) (share : UnitRecord → Nat)
    (blind : ∀ r, share r.unsplit = share r) :
    (t.units.toList.map share).sum = (s.units.toList.map share).sum := by
  have lists := congrArg (fun v => (v.toList.map share).sum) same
  simpa [State.unsplitUnits, Vector.toList_map, Function.comp_def, blind] using lists

theorem State.frozenSum_of_unsplit (same : t.unsplitUnits = s.unsplitUnits) : t.frozenSum = s.frozenSum :=
  State.sum_of_unsplit same _ UnitRecord.unsplit_frozenShare

theorem State.capacitySum_of_unsplit (same : t.unsplitUnits = s.unsplitUnits) : t.capacitySum = s.capacitySum :=
  State.sum_of_unsplit same _ fun _ => rfl

theorem State.iMeas_of_unsplit (same : t.unsplitUnits = s.unsplitUnits) : t.iMeas = s.iMeas :=
  congrArg (min topCurrent) (State.sum_of_unsplit same UnitRecord.measuredShare fun _ => rfl)

theorem State.iCap_of_unsplit (same : t.unsplitUnits = s.unsplitUnits) : t.iCap = s.iCap := by
  simp only [State.iCap, State.capacitySum_of_unsplit same, State.frozenSum_of_unsplit same]

theorem State.vCap_of_unsplit (same : t.unsplitUnits = s.unsplitUnits) : t.vCap = s.vCap := by
  have lists := congrArg (fun v => ((v.toList.filter UnitRecord.serving).map UnitRecord.vMax)) same
  have serving : UnitRecord.serving ∘ UnitRecord.unsplit = UnitRecord.serving := rfl
  have vMax : UnitRecord.vMax ∘ UnitRecord.unsplit = UnitRecord.vMax := rfl
  simp only [State.unsplitUnits, Vector.toList_map, List.filter_map, List.map_map, serving, vMax] at lists
  simp only [State.vCap, lists]

theorem State.unit_of_unsplit (same : t.unsplitUnits = s.unsplitUnits) (i : Nat) (inside : i < 8) :
    t.units[i].unsplit = s.units[i].unsplit := by
  have entries := congrArg (fun v : Vector UnitRecord 8 => v[i]) same
  simpa [State.unsplitUnits] using entries

theorem State.countBefore_of_unsplit (same : t.unsplitUnits = s.unsplitUnits) (i : Nat) :
    (t.units.toList.take i).countP UnitRecord.takesCount = (s.units.toList.take i).countP UnitRecord.takesCount := by
  have lists := congrArg (fun v => (v.toList.take i).countP UnitRecord.takesCount) same
  have blind : UnitRecord.takesCount ∘ UnitRecord.unsplit = UnitRecord.takesCount := rfl
  simpa only [State.unsplitUnits, Vector.toList_map, ← List.map_take, List.countP_map, blind] using lists

theorem State.splitShortfall_of_unsplit (same : t.unsplitUnits = s.unsplitUnits)
    (setpoint : t.current.setpoint = s.current.setpoint) :
    t.splitRemainder = s.splitRemainder ∧ t.splitShortfall = s.splitShortfall := by
  have remainder : t.splitRemainder = s.splitRemainder := by
    simp only [State.splitRemainder, setpoint, State.frozenSum_of_unsplit same]
  have shares := State.sum_of_unsplit same (fun u => u.splitShare s.splitRemainder s.capacitySum) fun _ => rfl
  exact ⟨remainder, by
    simp only [State.splitShortfall, remainder, State.capacitySum_of_unsplit same, shares]⟩

/-- A split reads the setpoint and the units but for what a split sets. -/
theorem State.split_units_congr (same : t.unsplitUnits = s.unsplitUnits)
    (setpoint : t.current.setpoint = s.current.setpoint) : t.split.units = s.split.units := by
  obtain ⟨remainder, shortfall⟩ := State.splitShortfall_of_unsplit same setpoint
  have capacity := State.capacitySum_of_unsplit same
  ext i inside
  have before := State.countBefore_of_unsplit same i
  have entry := State.unit_of_unsplit same i inside
  simp only [State.split_units, Vector.getElem_mapIdx, State.splitDemand, remainder, shortfall, capacity, before]
  generalize t.units[i] = r at entry
  generalize s.units[i] = q at entry
  have read : ∀ {α : Type} (f : UnitRecord → α), (∀ u, f u.unsplit = f u) → f r = f q := fun f blind => by
    rw [← blind r, entry, blind]
  have eligible : r.eligible = q.eligible := read _ fun _ => rfl
  have share : ∀ a b, r.splitShare a b = q.splitShare a b := fun a b => read (fun u => u.splitShare a b) fun _ => rfl
  have takes : r.takesCount = q.takesCount := read _ fun _ => rfl
  obtain ⟨⟩ := r
  obtain ⟨⟩ := q
  simp only [UnitRecord.unsplit, UnitRecord.mk.injEq, eligible] at entry
  simp only [UnitRecord.mk.injEq, eligible, share, takes]
  split <;> simp_all

theorem State.split_unsplitUnits (s : State) : s.split.unsplitUnits = s.unsplitUnits := by
  ext i inside
  have eligible : ∀ (r : UnitRecord) (d : Nat), UnitRecord.eligible { r with demand := d } = r.eligible := fun _ _ => rfl
  simp only [State.unsplitUnits, State.split_units, Vector.getElem_map, Vector.getElem_mapIdx, UnitRecord.unsplit,
    eligible, State.splitDemand]
  split <;> rfl

/-! ### The units and the setpoint after an evaluation (R111, R112, R113) -/

theorem State.evaluate_units (s : State) (cycle : Bool) :
    (s.evaluate cycle).units = if s.current.mode = .adopt then s.units
      else (s.withSetpoint (s.evaluate cycle).current.setpoint).split.units := by
  rw [State.evaluate_current]
  unfold State.evaluate State.splitInMode
  dsimp only
  rcases State.noteVoltage_cases (s.withMoved s.limitsNow (s.moved cycle s.limitsNow)) s.current.governing
    with h | h <;> rw [h] <;> by_cases adopt : s.current.mode = .adopt <;>
    simp only [State.raise_current, State.withMoved_current, adopt, if_true, if_false] <;> rfl

theorem State.evaluate_unsplitUnits (s : State) (cycle : Bool) :
    (s.evaluate cycle).unsplitUnits = s.unsplitUnits := by
  unfold State.unsplitUnits
  rw [State.evaluate_units]
  split
  · rfl
  · exact State.split_unsplitUnits _

/-- The units are those that a split of the present setpoint gives, where the line mode has splits. -/
def State.SplitMade (s : State) : Prop :=
  s.current.mode ≠ .adopt → s.split.units = s.units

theorem State.evaluate_splitMade (s : State) (cycle : Bool) : (s.evaluate cycle).SplitMade := by
  intro splits
  rw [(State.evaluate_links s cycle).mode] at splits
  rw [State.evaluate_units s cycle, if_neg splits]
  exact State.split_units_congr (State.evaluate_unsplitUnits s cycle) rfl

/-! ### States that differ in what an evaluation sets -/

/-- Two states that agree in what the limits and the grants read: they differ in the setpoint, the demands of eligible units
and what an evaluation reports. -/
structure State.Alike (s t : State) : Prop where
  pots : t.pots = s.pots
  quench : t.quench = s.quench
  switching : t.switching = s.switching
  meter : t.meter = s.meter
  mode : t.current.mode = s.current.mode
  target : t.current.target = s.current.target
  params : t.current.params = s.current.params
  units : t.unsplitUnits = s.unsplitUnits

theorem State.evaluate_alike (s : State) (cycle : Bool) : s.Alike (s.evaluate cycle) :=
  have links := State.evaluate_links s cycle
  have tables := State.evaluate_tables s cycle
  ⟨tables.1, tables.2, links.switching, links.meter, links.mode, links.target, links.params,
    State.evaluate_unsplitUnits s cycle⟩

theorem State.Alike.symm (alike : s.Alike t) : t.Alike s :=
  ⟨alike.pots.symm, alike.quench.symm, alike.switching.symm, alike.meter.symm, alike.mode.symm, alike.target.symm,
    alike.params.symm, alike.units.symm⟩

theorem State.Alike.trans {u : State} (a : s.Alike t) (b : t.Alike u) : s.Alike u :=
  ⟨b.pots.trans a.pots, b.quench.trans a.quench, b.switching.trans a.switching, b.meter.trans a.meter,
    b.mode.trans a.mode, b.target.trans a.target, b.params.trans a.params, b.units.trans a.units⟩

theorem State.Alike.heldSlots (alike : s.Alike t) : t.heldSlots = s.heldSlots := by
  simp only [State.heldSlots, alike.quench]

/-- What the voltage limit reads (R116). -/
theorem State.voltageLimit_congr (vCap : t.vCap = s.vCap) (params : t.params = s.params) (nIn : t.pots.nIn = s.pots.nIn)
    (nOut : t.pots.nOut = s.pots.nOut) (sumR : t.pots.sumR = s.pots.sumR) (k : Nat) :
    t.voltageLimit k = s.voltageLimit k := by
  have numerator : t.vlimNumerator k = s.vlimNumerator k := by
    simp only [State.vlimNumerator, vCap, params, nIn]
  have denominator : t.vlimDenominator = s.vlimDenominator := by
    simp only [State.vlimDenominator, params, nOut, sumR]
  unfold State.voltageLimit
  rw [numerator, denominator]

theorem State.Alike.voltageLimit (alike : s.Alike t) (k : Nat) : t.voltageLimit k = s.voltageLimit k :=
  State.voltageLimit_congr (State.vCap_of_unsplit alike.units) alike.params (by rw [alike.pots]) (by rw [alike.pots])
    (by rw [alike.pots]) k

theorem State.Alike.limitsNow (alike : s.Alike t) : t.limitsNow = s.limitsNow := by
  simp only [State.limitsNow, alike.voltageLimit, alike.heldSlots, State.iCap_of_unsplit alike.units, State.iSw,
    State.params, alike.params, alike.meter, alike.switching, alike.target]

theorem State.Alike.grantTest (alike : s.Alike t) : t.grantTest = s.grantTest := by
  unfold State.grantTest
  rw [alike.heldSlots, alike.voltageLimit, State.params, State.params, alike.params]

theorem State.Alike.freeSlot (alike : s.Alike t) : t.freeSlot = s.freeSlot := by
  simp only [State.freeSlot, State.slot_congr alike.quench]

theorem State.Alike.grantsNothing (alike : s.Alike t) : t.GrantsNothing ↔ s.GrantsNothing := by
  unfold State.GrantsNothing
  rw [alike.quench, alike.freeSlot, alike.grantTest]

theorem State.grant_pots (s : State) (p k : Nat) :
    (s.grant p k).pots = s.pots.put p { s.pot p with ae := .quenching, slot := some k } :=
  State.eventEvaluation_pots _

theorem State.grant_unsplitUnits (s : State) (p k : Nat) : (s.grant p k).unsplitUnits = s.unsplitUnits :=
  State.evaluate_unsplitUnits _ false

theorem State.Alike.grant (alike : s.Alike t) (p k : Nat) : (s.grant p k).Alike (t.grant p k) := by
  have links := State.grant_links s p k
  have links' := State.grant_links t p k
  constructor
  case pots => rw [State.grant_pots, State.grant_pots, alike.pots, State.pot_congr alike.pots]
  case quench =>
    rw [State.grant_quench, State.grant_quench, alike.quench, State.now, State.now, alike.meter]
  case switching => rw [links.switching, links'.switching, alike.switching]
  case meter => rw [links.meter, links'.meter, alike.meter]
  case mode => rw [links.mode, links'.mode, alike.mode]
  case target => rw [links.target, links'.target, alike.target]
  case params => rw [links.params, links'.params, alike.params]
  case units => rw [State.grant_unsplitUnits, State.grant_unsplitUnits, alike.units]

theorem State.Alike.grantLoop (alike : s.Alike t) (n : Nat) : (State.grantLoop n s).Alike (State.grantLoop n t) := by
  induction n generalizing s t with
  | zero => exact alike
  | succ n ih =>
    rw [State.grantLoop, State.grantLoop, alike.quench, alike.freeSlot, alike.grantTest]
    split
    · split
      · exact ih (alike.grant _ _)
      · exact alike
    · exact alike

theorem State.Alike.grantEvaluation (alike : s.Alike t) : s.grantEvaluation.Alike t.grantEvaluation :=
  alike.grantLoop 4

/-- The two orders of a cycle's works lead to states that are alike. -/
theorem State.cycleWork_alike (s : State) : (s.cycleWork true).Alike (s.cycleWork false) :=
  (State.evaluate_alike s.grantEvaluation true).symm.trans (State.evaluate_alike s true).grantEvaluation

theorem State.Alike.compareHead (alike : s.Alike t) : t.compareHead.pots = s.compareHead.pots := by
  have head : t.switchHead = s.switchHead := by
    simp only [State.switchHead, alike.switching, State.pot_congr alike.pots]
  unfold State.compareHead
  rw [head, alike.mode, State.iMeas_of_unsplit alike.units, State.params, State.params, alike.params, State.now,
    State.now, alike.meter]
  split
  · split
    · rw [State.putPot_pots, State.putPot_pots, alike.pots, State.pot_congr alike.pots]
    · exact alike.pots
  · exact alike.pots

/-! ### The units after a run of grants -/

theorem State.grantLoop_splitMade (n : Nat) (made : s.SplitMade) : (State.grantLoop n s).SplitMade := by
  induction n generalizing s with
  | zero => exact made
  | succ n ih =>
    unfold State.grantLoop
    split
    · split
      · exact ih (State.evaluate_splitMade _ false)
      · exact made
    · exact made

theorem State.evaluate_units_adopt (adopt : s.current.mode = .adopt) (cycle : Bool) :
    (s.evaluate cycle).units = s.units := by
  rw [State.evaluate_units, if_pos adopt]

theorem State.grant_units_adopt (adopt : s.current.mode = .adopt) (p k : Nat) : (s.grant p k).units = s.units := by
  unfold State.grant State.eventEvaluation
  rw [State.evaluate_units_adopt]
  · rfl
  · exact adopt

theorem State.grantLoop_units_adopt (n : Nat) (adopt : s.current.mode = .adopt) :
    (State.grantLoop n s).units = s.units := by
  induction n generalizing s with
  | zero => rfl
  | succ n ih =>
    unfold State.grantLoop
    split
    · next p rest k _ _ =>
      split
      · rw [ih ((State.grant_links s p k).mode.trans adopt)]
        exact State.grant_units_adopt adopt p k
      · rfl
    · rfl

/-- With the setpoint alike, the two orders leave the same units. -/
theorem State.cycleWork_units (s : State)
    (setpoint : (s.cycleWork true).current.setpoint = (s.cycleWork false).current.setpoint) :
    (s.cycleWork true).units = (s.cycleWork false).units := by
  have links := (State.grantEvaluation_links s).trans (State.evaluate_links s.grantEvaluation true)
  have made := State.evaluate_splitMade s.grantEvaluation true
  have made' := State.grantLoop_splitMade 4 (State.evaluate_splitMade s true)
  have alike := State.cycleWork_alike s
  by_cases adopt : s.current.mode = .adopt
  · have first : (s.cycleWork true).units = s.units :=
      (State.evaluate_units_adopt ((State.grantEvaluation_links s).mode.trans adopt) true).trans
        (State.grantLoop_units_adopt 4 adopt)
    have second : (s.cycleWork false).units = s.units :=
      (State.grantLoop_units_adopt 4 ((State.evaluate_links s true).mode.trans adopt)).trans
        (State.evaluate_units_adopt adopt true)
    rw [first, second]
  · have splits : (s.cycleWork true).current.mode ≠ .adopt := fun h => adopt (links.mode.symm.trans h)
    have splits' : (s.cycleWork false).current.mode ≠ .adopt := fun h => splits (alike.mode.symm.trans h)
    calc (s.cycleWork true).units
        = (s.cycleWork true).split.units := (made splits).symm
      _ = (s.cycleWork false).split.units := State.split_units_congr alike.symm.units setpoint
      _ = (s.cycleWork false).units := made' splits'

/-! ### The setpoint after a run of grants (R120 to R124) -/

/-- The least limit that bounds the setpoint from above in the line mode: I_lim in RUN, the capacities and the voltage in
HOLD (R121, R123). -/
def State.ceiling (s : State) : Nat :=
  if s.current.mode = .hold then min s.limitsNow.iCap s.limitsNow.iVlim else s.limitsNow.iLim

theorem State.Alike.ceiling (alike : s.Alike t) : t.ceiling = s.ceiling := by
  simp only [State.ceiling, alike.mode, alike.limitsNow]

/-- The setpoint after an event evaluation. -/
theorem State.eventEvaluation_setpoint (s : State) :
    s.eventEvaluation.current.setpoint =
      if s.current.mode = .adopt then s.iMeas else max (min s.current.setpoint s.ceiling) s.frozenSum := by
  rw [State.eventEvaluation, State.evaluate_current]
  cases mode : s.current.mode <;> simp [State.moved, State.ceiling, State.candidate, mode]

/-- The setpoint after the evaluation of a dispatch cycle. -/
theorem State.cycleEvaluation_setpoint (s : State) :
    (s.evaluate true).current.setpoint =
      if s.current.mode = .run then max (s.candidate true s.ceiling) s.frozenSum
      else s.eventEvaluation.current.setpoint := by
  rw [State.eventEvaluation, State.evaluate_current, State.evaluate_current]
  cases mode : s.current.mode <;> simp [State.moved, State.ceiling, mode]

theorem State.voltageLimit_anti (s : State) (k : Nat) : s.voltageLimit (k + 1) ≤ s.voltageLimit k := by
  have reserve : s.vlimNumerator (k + 1) + s.params.qRes = s.vlimNumerator k := by
    simp only [State.vlimNumerator]
    push_cast
    ring
  unfold State.voltageLimit
  split
  · exact Nat.zero_le _
  · next above =>
    have above' : ¬ s.vlimNumerator k ≤ 0 := by omega
    rw [if_neg above']
    by_cases zero : s.vlimDenominator = 0
    · rw [if_pos zero, if_pos zero]
    · have fewer : (s.vlimNumerator (k + 1)).toNat ≤ (s.vlimNumerator k).toNat := by omega
      rw [if_neg zero, if_neg zero]
      exact min_le_min le_rfl (Nat.div_le_div_right (Nat.mul_le_mul_right _ fewer))

/-- A grant lowers the voltage limit at most. -/
theorem State.grant_ceiling {p k : Nat} (free : s.freeSlot = some k) : (s.grant p k).ceiling ≤ s.ceiling := by
  have links := State.grant_links s p k
  have units := State.grant_unsplitUnits s p k
  obtain ⟨nIn, nOut, sumR, -⟩ := PotRegister.sums_of_line (State.grant_line s p k)
  have voltage : (s.grant p k).voltageLimit (s.grant p k).heldSlots ≤ s.voltageLimit s.heldSlots := by
    rw [State.grant_heldSlots free, State.voltageLimit_congr (State.vCap_of_unsplit units) links.params nIn nOut sumR]
    exact s.voltageLimit_anti _
  simp only [State.ceiling, State.limitsNow, links.mode, links.target, links.meter, State.iSw, links.switching,
    State.params, links.params, State.iCap_of_unsplit units]
  split <;> omega

theorem State.grant_setpoint (s : State) (p k : Nat) :
    (s.grant p k).current.setpoint = if s.current.mode = .adopt then s.iMeas
      else max (min s.current.setpoint (s.grant p k).ceiling) s.frozenSum := by
  have alike : ∀ u : State, u.ceiling = u.eventEvaluation.ceiling := fun u =>
    (State.evaluate_alike u false).ceiling.symm
  unfold State.grant
  rw [State.eventEvaluation_setpoint, alike]
  rfl

/-- The setpoint has made one movement under a ceiling that is no higher: what a run of grants does to it. -/
structure State.MovedOnce (s t : State) : Prop where
  mode : t.current.mode = s.current.mode
  units : t.unsplitUnits = s.unsplitUnits
  ceiling : t.ceiling ≤ s.ceiling
  setpoint : t.current.setpoint = if s.current.mode = .adopt then s.iMeas
    else max (min s.current.setpoint t.ceiling) s.frozenSum

/-- Of two movements the second, under the lower ceiling, decides. -/
theorem State.MovedOnce.trans {u : State} (first : s.MovedOnce t) (second : t.MovedOnce u) : s.MovedOnce u := by
  refine ⟨second.mode.trans first.mode, second.units.trans first.units, second.ceiling.trans first.ceiling, ?_⟩
  have lower := second.ceiling
  rw [second.setpoint, first.setpoint, first.mode, State.iMeas_of_unsplit first.units,
    State.frozenSum_of_unsplit first.units]
  split
  · rfl
  · omega

theorem State.grant_movedOnce {p k : Nat} (free : s.freeSlot = some k) : s.MovedOnce (s.grant p k) :=
  ⟨(State.grant_links s p k).mode, State.grant_unsplitUnits s p k, State.grant_ceiling free, State.grant_setpoint s p k⟩

theorem State.grantLoop_movedOnce (n : Nat) (able : ¬ s.GrantsNothing) : s.MovedOnce (State.grantLoop (n + 1) s) := by
  induction n generalizing s with
  | zero =>
    obtain ⟨p, rest, k, queue, free, passes⟩ := State.grants_of_able able
    rw [State.grantLoop_grants queue free passes]
    exact State.grant_movedOnce free
  | succ n ih =>
    obtain ⟨p, rest, k, queue, free, passes⟩ := State.grants_of_able able
    have moved : s.MovedOnce (s.grant p k) := State.grant_movedOnce free
    rw [State.grantLoop_grants queue free passes]
    by_cases idle : (s.grant p k).GrantsNothing
    · rwa [State.grantLoop_idle idle]
    · exact moved.trans (ih idle)

/-! ### The two orders -/

/-- A ramp step of the setpoint `x` under the ceiling `b`, and a fall to the ceiling `c` that is no higher, come to the same
in either order, over the floor `f` (R120 to R122). -/
theorem ramp_and_fall_commute (x f b c step : Nat) (covered : f ≤ x) (lower : c ≤ b) :
    max (if max (min x c) f ≤ c then min c (max (min x c) f + step) else c) f =
      max (min (max (if x ≤ b then min b (x + step) else b) f) c) f := by
  split_ifs <;> omega

/-- Where no grant can be made, either order of the works is the Dispatcher's own evaluation. -/
theorem State.cycleWork_idle (idle : s.GrantsNothing) (arbiterFirst : Bool) :
    s.cycleWork arbiterFirst = s.evaluate true := by
  cases arbiterFirst with
  | true => exact congrArg (·.evaluate true) (State.grantEvaluation_idle s idle)
  | false => exact State.grantEvaluation_idle _ ((State.evaluate_alike s true).grantsNothing.mpr idle)

/-- The setpoint of a cycle in either order of its works, from a setpoint in RUN of at least F. -/
theorem State.cycleWork_setpoint (s : State) (covered : s.current.mode = .run → s.frozenSum ≤ s.current.setpoint) :
    (s.cycleWork true).current.setpoint = (s.cycleWork false).current.setpoint := by
  by_cases idle : s.GrantsNothing
  · rw [State.cycleWork_idle idle, State.cycleWork_idle idle]
  have alike := State.evaluate_alike s true
  have arbiter : s.MovedOnce s.grantEvaluation := State.grantLoop_movedOnce 3 idle
  have dispatcher : (s.evaluate true).MovedOnce (s.evaluate true).grantEvaluation :=
    State.grantLoop_movedOnce 3 (alike.grantsNothing.not.mpr idle)
  have ceilings : (s.evaluate true).grantEvaluation.ceiling = s.grantEvaluation.ceiling := alike.grantEvaluation.ceiling
  have ramp : s.grantEvaluation.params.rampStep = s.params.rampStep :=
    congrArg Params.rampStep (State.grantEvaluation_links s).params
  have lower := arbiter.ceiling
  have first : (s.cycleWork true).current.setpoint = _ := State.cycleEvaluation_setpoint s.grantEvaluation
  have second : (s.cycleWork false).current.setpoint = _ := dispatcher.setpoint
  rw [first, second, State.eventEvaluation_setpoint, State.cycleEvaluation_setpoint, State.eventEvaluation_setpoint,
    alike.mode, arbiter.mode, ceilings, State.iMeas_of_unsplit alike.units, State.iMeas_of_unsplit arbiter.units,
    State.frozenSum_of_unsplit alike.units, State.frozenSum_of_unsplit arbiter.units, State.candidate, State.candidate,
    arbiter.setpoint, ramp]
  cases mode : s.current.mode with
  | adopt => simp
  | run => simpa using ramp_and_fall_commute _ _ _ _ _ (covered mode) lower
  | hold =>
    simp only [reduceCtorEq, if_false]
    omega

end States

/-- Settles O34: the two orders lead to states that are alike, with the same setpoint and so the same split. -/
theorem cycleOrderDoesNotMatter : Obligations.CycleOrderDoesNotMatter := by
  intro s covered
  have setpoint := State.cycleWork_setpoint s.dividerAdvanced covered
  have units := State.cycleWork_units s.dividerAdvanced setpoint
  have alike := State.cycleWork_alike s.dividerAdvanced
  refine ⟨_, _, rfl, rfl, ?_⟩
  have pots := alike.compareHead
  rw [State.compareHead_frame (s.dividerAdvanced.cycleWork true), State.compareHead_frame (s.dividerAdvanced.cycleWork false)]
  exact ⟨setpoint, units, alike.quench.symm, pots.symm, alike.switching.symm, alike.meter.symm⟩

end Sys2Proof.Machine
end

section
/-! PROOFS. The switch queue's advance, by the place of the pot that leaves (R65). -/

namespace Sys2Proof.Machine

variable {s : State}

/-- The advance writes no record but that of the entry that follows a head that leaves. -/
theorem State.advanceSwitchQueue_pot_kept {p q : Nat}
    (unheaded : s.switching.queue.head? = some p → (s.switching.queue.erase p).head? ≠ some q) :
    (s.advanceSwitchQueue p).pot q = s.pot q := by
  unfold State.advanceSwitchQueue
  split
  · rfl
  · next head rest queue =>
    split
    · next same =>
      subst same
      rw [queue, List.erase_cons_head] at unheaded
      split
      · rfl
      · exact State.pot_putPot_other _ _ q _ fun comes => unheaded rfl (congrArg some comes.symm)
    · rfl

theorem State.endSwitch_pot_kept {p q : Nat} (result : SwitchResult) (differ : q ≠ p)
    (unheaded : s.switching.queue.head? = some p → (s.switching.queue.erase p).head? ≠ some q) :
    (s.endSwitch p result).pot q = s.pot q :=
  (State.advanceSwitchQueue_pot_kept (s := s.putPot p _) unheaded).trans (State.pot_putPot_other s p q _ differ)

/-- The second entry of the queue becomes its head as the head's switch record leaves. -/
theorem State.endSwitch_pot_second {p n : Nat} {rest : List Nat} (result : SwitchResult)
    (queue : s.switching.queue = p :: n :: rest) (known : isPosition n = true) (differ : n ≠ p) :
    (s.endSwitch p result).pot n =
      { s.pot n with switch := (s.pot n).switch.map fun w => { w with phase := .ramping, stamp := s.now } } := by
  have kept : (s.putPot p { s.pot p with switch := none, lastSwitch := result }).pot n = s.pot n :=
    State.pot_putPot_other s p n _ differ
  simp only [State.endSwitch, State.advanceSwitchQueue, State.putPot_switching, queue, if_true]
  refine (State.pot_putPot_same _ n _ known).trans ?_
  rw [State.pot_congr (State.withSwitchQueue_pots _ _), kept]
  rfl

/-- The ceiling is lifted while no pot waits to be switched (R68). -/
theorem State.iSw_lifted (empty : s.switching.queue = []) : s.iSw = 65535 := if_pos empty

/-- Settles O21, by the place of the pot in the queue. -/
theorem switchQueueAdvances : Obligations.SwitchQueueAdvances := by
  intro s p result low high once positions
  have known : isPosition p = true := (isPosition_iff p).mpr ⟨low, high⟩
  refine ⟨State.endSwitch_frame s p result, State.endSwitch_pot_same s p result known once,
    fun h rest queue other => ?behind, fun n rest queue => ?head, fun queue => ?alone⟩
  case behind =>
    refine ⟨?_, fun q differ => State.endSwitch_pot_kept result differ fun heads => ?_⟩
    · rw [State.endSwitch_queue, queue, List.erase_cons_tail (by simpa using other)]
    · exact absurd heads (by simpa [queue] using other)
  case head =>
    have left : s.switching.queue.erase p = n :: rest := by rw [queue, List.erase_cons_head]
    have second : n ≠ p := by
      rintro rfl
      simp [queue] at once
    have known' : isPosition n = true := (isPosition_iff n).mpr (positions n (by simp [queue]))
    refine ⟨(State.endSwitch_queue s p result).trans left, State.endSwitch_pot_second result queue known' second,
      fun q differ further => State.endSwitch_pot_kept result differ fun _ => ?_⟩
    simpa [left] using further.symm
  case alone =>
    have left : s.switching.queue.erase p = [] := by rw [queue, List.erase_cons_head]
    have empty := (State.endSwitch_queue s p result).trans left
    exact ⟨empty, State.iSw_lifted empty, fun q differ => State.endSwitch_pot_kept result differ (by simp [left])⟩

end Sys2Proof.Machine
end

section
/-! PROOFS. The comparison of a dispatch cycle with the head of the switch queue (R70). -/

namespace Sys2Proof.Machine

variable {s : State}

/-- A grant writes the AE state and the slot of a pot, and no switch record. -/
theorem State.grant_switch (s : State) (p k q : Nat) : ((s.grant p k).pot q).switch = (s.pot q).switch := by
  by_cases same : q = p
  · subst same
    by_cases known : isPosition q = true
    · rw [State.grant_pot_same s q k known]
    · rw [State.pot_outside _ q known, State.pot_outside _ q known]
  · rw [State.grant_pot_other s p k q same]

theorem State.grantLoop_keeps {α : Type} (read : State → α) (grants : ∀ s p k, read (State.grant s p k) = read s)
    (n : Nat) (s : State) : read (State.grantLoop n s) = read s := by
  induction n generalizing s with
  | zero => rfl
  | succ n ih =>
    unfold State.grantLoop
    split
    · split
      · rw [ih, grants]
      · rfl
    · rfl

/-- What neither an evaluation nor a grant changes, the works of a cycle leave, whichever is taken first (R48, R112). -/
theorem State.cycleWork_keeps {α : Type} (read : State → α)
    (evaluates : ∀ s, read (State.evaluate s true) = read s) (grants : ∀ s p k, read (State.grant s p k) = read s)
    (s : State) (arbiterFirst : Bool) : read (s.cycleWork arbiterFirst) = read s := by
  have loops := State.grantLoop_keeps read grants 4
  cases arbiterFirst with
  | true => exact (evaluates _).trans (loops s)
  | false => exact (loops _).trans (evaluates s)

theorem State.cycleWork_links (s : State) (arbiterFirst : Bool) : s.SameLinks (s.cycleWork arbiterFirst) := by
  cases arbiterFirst with
  | true => exact (State.grantEvaluation_links s).trans (State.evaluate_links _ true)
  | false => exact (State.evaluate_links s true).trans (State.grantEvaluation_links _)

theorem State.cycleWork_iMeas (s : State) (arbiterFirst : Bool) : (s.cycleWork arbiterFirst).iMeas = s.iMeas :=
  State.iMeas_of_unsplit <| State.cycleWork_keeps State.unsplitUnits (fun s => State.evaluate_unsplitUnits s true)
    State.grant_unsplitUnits s arbiterFirst

theorem State.cycleWork_switch (s : State) (arbiterFirst : Bool) (q : Nat) :
    ((s.cycleWork arbiterFirst).pot q).switch = (s.pot q).switch :=
  State.cycleWork_keeps (fun t => (t.pot q).switch)
    (fun s => congrArg PotRecord.switch (State.pot_congr (State.evaluate_pots s true) q))
    (fun s p k => State.grant_switch s p k q) s arbiterFirst

theorem State.switchHead_of_head {q : Nat} (heads : s.switching.queue.head? = some q) :
    s.switchHead = (s.pot q).switch.map fun w => (q, w) := by
  obtain ⟨rest, queue⟩ := List.head?_eq_some_iff.mp heads
  simp only [State.switchHead, queue]

theorem State.compareHead_pot_other {q : Nat} (behind : s.switching.queue.head? ≠ some q) :
    s.compareHead.pot q = s.pot q := by
  unfold State.compareHead
  split
  · next p w head =>
    obtain ⟨heads, -⟩ := State.switchHead_iff.mp head
    split
    · exact State.pot_putPot_other s p q _ fun same => behind (same ▸ heads)
    · rfl
  · rfl

theorem State.compareHead_switch_head {q : Nat} (heads : s.switching.queue.head? = some q)
    (known : isPosition q = true) :
    (s.compareHead.pot q).switch =
      if s.current.mode = .run ∧ s.iMeas ≤ s.params.iCeiling then
        (s.pot q).switch.map fun w => if w.phase = .ramping then { w with phase := .opened, stamp := s.now } else w
      else (s.pot q).switch := by
  unfold State.compareHead
  rw [State.switchHead_of_head heads]
  cases switched : (s.pot q).switch with
  | none => simp [switched]
  | some w =>
    by_cases ramping : w.phase = .ramping
    · by_cases passes : s.current.mode = .run ∧ s.iMeas ≤ s.params.iCeiling <;>
        simp [ramping, passes, switched, State.pot_putPot_same s q _ known]
    · simp [ramping, switched]

/-- Settles O23: the comparison comes after the cycle's works, which change nothing that it reads. -/
theorem windowOpensOnMeasuredCurrent : Obligations.WindowOpensOnMeasuredCurrent := by
  intro s arbiterFirst
  have links := State.cycleWork_links s.dividerAdvanced arbiterFirst
  have iMeas := State.cycleWork_iMeas s.dividerAdvanced arbiterFirst
  have now := links.now
  refine ⟨_, rfl, ?_, fun q low high => ?_⟩
  · rw [State.compareHead_frame]
    exact links.switching
  have record := State.cycleWork_switch s.dividerAdvanced arbiterFirst q
  by_cases heads : s.switching.queue.head? = some q
  · have heads' : (s.dividerAdvanced.cycleWork arbiterFirst).switching.queue.head? = some q := links.switching ▸ heads
    rw [State.compareHead_switch_head heads' ((isPosition_iff q).mpr ⟨low, high⟩), iMeas, record, now, links.mode,
      State.params, links.params]
    simp only [heads, true_and]
    rfl
  · rw [if_neg fun passes => heads passes.1, State.compareHead_pot_other (links.switching ▸ heads), record]
    rfl

end Sys2Proof.Machine
end

section
/-! PROOFS. A request of a pot controller behind the checks of R12, and SWITCH REQUEST (R66, R67). -/

namespace Sys2Proof.Machine

open Sys2Proof.Claims

variable {s : State} {node p tag : Nat}

/-! ### A request behind the checks of R12 -/

/-- The state after a serving whose reply is begun on the field link. -/
def State.fieldReplied (served : State × Reply) : State :=
  served.1.sendFieldReply served.2

/-- A request of a pot controller that names a pot: a serving that answers the status of the checks of R12 where they
refuse, and does what is stated where they pass (R187, R189). -/
theorem State.fieldRequest_gated {turn : Turn} (window : Window s turn .potNode) (serve : Nat → State → State × Reply)
    {zeros : List Byte} {passed : State}
    (refuses : s.nodeAnswered.identity (some turn.address) p tag ≠ .done → serve turn.address s.nodeAnswered =
      (s.nodeAnswered, Reply.served (s.nodeAnswered.identity (some turn.address) p tag) zeros))
    (passes : s.nodeAnswered.identity (some turn.address) p tag = .done →
      State.fieldReplied (serve turn.address s.nodeAnswered) = passed) :
    s.fieldRequest [.potNode] serve =
      gate s (some turn.address) p tag (fun status => fieldAnswered s.nodeAnswered status zeros) passed := by
  have same : s.nodeAnswered.identity (some turn.address) p tag = s.identity (some turn.address) p tag := rfl
  rw [same] at refuses passes
  rw [State.fieldRequest_of_window window [.potNode] (by simp), State.gate_identity]
  split
  · next done => exact passes done
  · next refused => exact congrArg State.fieldReplied (refuses refused)

/-! ### SWITCH REQUEST (R66, R67) -/

/-- A pot with its new switch record at the end of the switch queue. -/
def State.joined (s : State) (p : Nat) (d : Direction) (phase : SwitchPhase) : State :=
  (s.putPot p { s.pot p with switch := some ⟨d, phase, s.now⟩ }).withSwitchQueue (s.switching.queue ++ [p])

/-- The serving that answers a pot's queue position and switch phase (R190). -/
def State.placeServed (p : Nat) (s : State) : State × Reply :=
  (s, Reply.served .done (be 1 (s.switching.queue.idxOf p + 1) ++ be 1 (s.pot p).phaseCode))

theorem State.startSwitch_eq (s : State) (p : Nat) (d : Direction) :
    s.startSwitch p d =
      if s.switching.queue = [] then (s.joined p d .ramping).eventEvaluation else s.joined p d .queued := by
  cases queue : s.switching.queue <;> simp [State.startSwitch, State.joined, queue]

theorem State.serveSwitchRequest_refused {d : Nat} (refused : s.identity (some node) p tag ≠ .done) :
    s.serveSwitchRequest node p tag d = (s, Reply.served (s.identity (some node) p tag) [0, 0]) := by
  have status : s.switchRequestStatus node p tag d = s.identity (some node) p tag := if_pos refused
  unfold State.serveSwitchRequest
  dsimp only
  rw [status]
  split
  · next done _ => exact absurd done refused
  · rfl

theorem directionOf_eq (d : Nat) :
    directionOf d = if d ≠ 1 ∧ d ≠ 2 then none else some (if d = 1 then .cutIn else .cutOut) := by
  unfold directionOf
  split <;> simp_all

/-- The circuit state that a direction is asked of, by its code (R66 check 4). -/
theorem Direction.from_ne_iff {d : Nat} (named : ¬ (d ≠ 1 ∧ d ≠ 2)) (circuit : Circuit) :
    circuit ≠ Direction.from (if d = 1 then .cutIn else .cutOut) ↔
      d = 1 ∧ circuit ≠ .outOfCircuit ∨ d = 2 ∧ circuit ≠ .inCircuit := by
  obtain rfl | rfl : d = 1 ∨ d = 2 := by omega
  all_goals simp [Direction.from]

/-- The checks of SWITCH REQUEST after those of R12, in their order, and the request that passes them (R66, R67). -/
theorem State.serveSwitchRequest_passed (d : Nat) (passed : s.identity (some node) p tag = .done) :
    s.serveSwitchRequest node p tag d =
      let direction : Direction := if d = 1 then .cutIn else .cutOut
      let refused := fun status => (s, Reply.served status [0, 0])
      if d ≠ 1 ∧ d ≠ 2 then refused .param
      else if s.current.mode = .adopt then refused .notReady
      else if s.current.mode = .hold then refused .state
      else if d = 1 ∧ (s.pot p).circuit ≠ .outOfCircuit ∨ d = 2 ∧ (s.pot p).circuit ≠ .inCircuit then refused .state
      else if (s.pot p).ae ≠ .none then refused .state
      else if (s.pot p).switch ≠ none then refused .busy
      else if 8 ≤ s.switching.queue.length then refused .full
      else State.placeServed p (s.startSwitch p direction) := by
  by_cases named : d ≠ 1 ∧ d ≠ 2
  · simp [State.serveSwitchRequest, State.switchRequestStatus, passed, directionOf_eq, named, be_zero]
  · simp only [State.serveSwitchRequest, State.switchRequestStatus, passed, directionOf_eq, if_neg named,
      Direction.from_ne_iff named, ← Option.isSome_iff_ne_none, if_neg (not_not.mpr rfl)]
    split_ifs <;> rfl

/-- Settles O20: the checks in their order, and the pot that has joined the queue. -/
theorem switchRequestJoinsQueue : Obligations.SwitchRequestJoinsQueue := by
  intro s turn p tag d window
  refine congrArg Host.Outcome.next (State.fieldRequest_gated window
    (fun node t => t.serveSwitchRequest node p tag d) State.serveSwitchRequest_refused fun passed => ?_)
  rw [State.serveSwitchRequest_passed d passed]
  simp only [State.startSwitch_eq, apply_ite State.fieldReplied, apply_ite (State.placeServed p)]
  rfl

end Sys2Proof.Machine
end

section
/-! PROOFS. The ends of a switching operation: SWITCH DONE, SWITCH CANCEL, a ramp failure and a window expiry (R71,
R73 to R75, R77). -/

namespace Sys2Proof.Machine

open Sys2Proof.Claims

variable {s : State} {node p tag : Nat}

/-! ### SWITCH DONE and SWITCH CANCEL (R73, R74, R77) -/

/-- The serving that answers a pot's circuit state (R190). -/
def State.circuitServed (p : Nat) (status : ReqStatus) (s : State) : State × Reply :=
  (s, Reply.served status (be 1 (s.pot p).circuit.code))

theorem State.circuitPayload_refused (refused : s.identity (some node) p tag ≠ .done) :
    s.circuitPayload (s.identity (some node) p tag) p = [0] := by
  rcases State.identity_refused refused with status | status | status <;> rw [status] <;> rfl

theorem State.serveSwitchDone_refused (refused : s.identity (some node) p tag ≠ .done) :
    s.serveSwitchDone node p tag = (s, Reply.served (s.identity (some node) p tag) [0]) := by
  have status : s.switchDoneStatus node p tag = s.identity (some node) p tag := if_pos refused
  simp only [State.serveSwitchDone, status, if_neg refused, State.circuitPayload_refused refused]

theorem State.serveSwitchDone_late (passed : s.identity (some node) p tag = .done)
    (unswitched : (s.pot p).switch = none) : s.serveSwitchDone node p tag = State.circuitServed p .late s := by
  simp [State.serveSwitchDone, State.switchDoneStatus, passed, unswitched, State.circuitPayload, State.circuitServed]

theorem State.serveSwitchDone_switched (passed : s.identity (some node) p tag = .done) {w : SwitchRecord}
    (switched : (s.pot p).switch = some w) :
    s.serveSwitchDone node p tag =
      if w.phase ≠ .opened then State.circuitServed p .state s
      else State.circuitServed p .done (s.completeSwitch p) := by
  by_cases opened : w.phase = .opened <;>
    simp [State.serveSwitchDone, State.switchDoneStatus, passed, switched, opened, State.circuitPayload,
      State.circuitServed]

/-- The circuit change of a switch record, by its direction (R21, R22, R74 step 1). -/
theorem State.completeSwitch_eq {w : SwitchRecord} (switched : (s.pot p).switch = some w) :
    s.completeSwitch p =
      ((s.putPot p (if w.direction = .cutIn then s.cutInRecord (s.pot p) else (s.pot p).cutOut)).endSwitch p
        .completed).raise .switchCompleted p := by
  cases direction : w.direction <;> simp [State.completeSwitch, State.applySwitch, switched, direction]

theorem State.serveSwitchCancel_refused (refused : s.identity (some node) p tag ≠ .done) :
    s.serveSwitchCancel node p tag = (s, Reply.served (s.identity (some node) p tag) [0]) := by
  have status : s.switchCancelStatus node p tag = s.identity (some node) p tag := if_pos refused
  simp only [State.serveSwitchCancel, status, if_neg refused, State.circuitPayload_refused refused]

theorem State.serveSwitchCancel_passed (passed : s.identity (some node) p tag = .done) :
    s.serveSwitchCancel node p tag =
      if (s.pot p).switch = none then State.circuitServed p .late s
      else State.circuitServed p .done (s.endSwitch p .cancelled) := by
  by_cases unswitched : (s.pot p).switch = none <;>
    simp [State.serveSwitchCancel, State.switchCancelStatus, passed, unswitched, State.circuitPayload,
      State.circuitServed]

/-! ### The examinations of the head (R71, R75) -/

theorem exec_rampFailure {w : SwitchRecord} (head : s.switchHead = some (p, w)) :
    exec .rampFailure s = .next (
      if w.phase = .ramping ∧ s.meter.atAdvance.tRampFail ≤ age s.meter.lineSeconds w.stamp then
        (s.endSwitch p .rampFailed).raise .switchExpired p
      else s) := by
  simp only [exec, execRampFailure, head]
  rfl

theorem exec_windowExpiry {w : SwitchRecord} (head : s.switchHead = some (p, w)) :
    exec .windowExpiry s = .next (
      if w.phase = .opened ∧ s.meter.atAdvance.tWindow ≤ age s.meter.lineSeconds w.stamp then
        (s.endSwitch p .expired).raise .switchExpired p
      else s) := by
  simp only [exec, execWindowExpiry, head]
  rfl

/-- Settles O22: the requests that end an operation, and the examinations of the head. -/
theorem switchOperationsEnd : Obligations.SwitchOperationsEnd := by
  refine ⟨fun s turn p tag window => ?done, fun s turn p tag window => ?cancel,
    fun s p rest w queue switched => ?timers, fun s empty => ?empty⟩
  case done =>
    refine congrArg Host.Outcome.next (State.fieldRequest_gated window
      (fun node t => t.serveSwitchDone node p tag) State.serveSwitchDone_refused fun passed => ?_)
    cases switched : (s.pot p).switch with
    | none =>
      rw [State.serveSwitchDone_late passed switched]
      rfl
    | some w =>
      rw [State.serveSwitchDone_switched passed switched, State.completeSwitch_eq (s := s.nodeAnswered) switched,
        apply_ite State.fieldReplied]
      rfl
  case cancel =>
    refine congrArg Host.Outcome.next (State.fieldRequest_gated window
      (fun node t => t.serveSwitchCancel node p tag) State.serveSwitchCancel_refused fun passed => ?_)
    rw [State.serveSwitchCancel_passed passed, apply_ite State.fieldReplied]
    rfl
  case timers =>
    have head : s.switchHead = some (p, w) := State.switchHead_iff.mpr ⟨by rw [queue]; rfl, switched⟩
    exact ⟨exec_rampFailure head, exec_windowExpiry head⟩
  case empty =>
    have head : s.switchHead = none := by simp only [State.switchHead, empty]
    constructor
    · simp only [exec, execRampFailure, head]
    · simp only [exec, execWindowExpiry, head]

end Sys2Proof.Machine
end

section
/-! PROOFS. A unit record while its fields stand as its state allows (R82, R84, R89): what an evaluation leaves of it, and
what each write of a record keeps. -/

namespace Sys2Proof.Machine

section Records

variable {r : UnitRecord}

/-! ### The words of a unit record's state -/

theorem UnitRecord.serving_iff (r : UnitRecord) : r.serving = true ↔ r.state = .serving := by
  simp [UnitRecord.serving]

theorem UnitRecord.serving_eq_false_iff (r : UnitRecord) : r.serving = false ↔ r.state ≠ .serving := by
  simp [UnitRecord.serving]

theorem UnitRecord.onLine_iff (r : UnitRecord) : r.onLine = true ↔ r.state = .serving ∨ r.state = .tripping := by
  simp [UnitRecord.onLine]

theorem UnitRecord.removable_iff (r : UnitRecord) :
    r.removable = true ↔ r.state = .idle ∨ r.state = .locked ∨ r.state = .lost := by
  simp [UnitRecord.removable, or_assoc]

theorem UnitRecord.overheated_iff (r : UnitRecord) :
    r.overheated = true ↔ r.state = .serving ∧ r.tTrip ≤ r.temperature := by
  simp [UnitRecord.overheated, UnitRecord.serving]

/-! ### What an evaluation leaves of a unit record (R125 to R127) -/

/-- Only the demand of a SERVING unit is free of its state. -/
theorem UnitRecord.Sound.withDemand (sound : r.Sound) (serving : r.state = .serving) (demand : Nat) :
    UnitRecord.Sound { r with demand := demand } where
  absent absent := by simp [serving] at absent
  silent := sound.silent
  frozen := sound.frozen
  flowLoss := sound.flowLoss
  demand other := absurd serving other
  capacity := sound.capacity
  rating := sound.rating
  derated := sound.derated
  noCause := sound.noCause
  cause := sound.cause
  definition := sound.definition
  clamped := sound.clamped

theorem UnitRecord.unsplit_of_not_eligible (other : r.eligible = false) : r.unsplit = r := by
  simp [UnitRecord.unsplit, other]

theorem UnitRecord.serving_of_eligible (eligible : r.eligible = true) : r.state = .serving := by
  simp only [UnitRecord.eligible, Bool.and_eq_true] at eligible
  exact r.serving_iff.mp eligible.1

theorem UnitRecord.unsplit_sound_iff (r : UnitRecord) : r.unsplit.Sound ↔ r.Sound := by
  cases eligible : r.eligible with
  | false => rw [UnitRecord.unsplit_of_not_eligible eligible]
  | true =>
    have serving := UnitRecord.serving_of_eligible eligible
    exact ⟨fun sound => sound.withDemand serving r.demand, fun sound => sound.withDemand serving _⟩

/-- Two records that a split leaves alike differ in their demands at most. -/
theorem UnitRecord.eq_of_unsplit {q : UnitRecord} (same : q.unsplit = r.unsplit) : q = { r with demand := q.demand } := by
  obtain ⟨⟩ := q
  obtain ⟨⟩ := r
  simp only [UnitRecord.unsplit, UnitRecord.mk.injEq] at same
  simp [same]

theorem UnitRecord.demand_of_unsplit {q : UnitRecord} (same : q.unsplit = r.unsplit) (other : r.state ≠ .serving) :
    q.demand = r.demand := by
  have state : q.state = r.state := (congrArg UnitRecord.state same :)
  have kept : ∀ x : UnitRecord, x.state ≠ .serving → x.unsplit = x := fun x out =>
    UnitRecord.unsplit_of_not_eligible (by simp [UnitRecord.eligible, x.serving_eq_false_iff.mpr out])
  rw [kept r other, kept q (state ▸ other)] at same
  rw [same]

/-! ### Trips, silence, loss and the requests of the line master (R84, R92, R95 to R97, R99) -/

theorem UnitRecord.empty_sound : UnitRecord.empty.Sound := by
  constructor <;> simp [UnitRecord.empty, UnitRecord.serving]

theorem UnitRecord.Sound.tripped (sound : r.Sound) (present : r.state ≠ .absent) {cause : TripCause}
    (named : cause ≠ .none) : (r.tripped cause).Sound where
  absent absent := by simp [UnitRecord.tripped] at absent
  silent _ := .inr rfl
  frozen := rfl
  flowLoss stamped := by simp [UnitRecord.tripped] at stamped
  demand _ := rfl
  capacity _ := rfl
  rating := Nat.zero_le _
  derated := by simp [UnitRecord.tripped]
  noCause := by simp [UnitRecord.tripped]
  cause _ := named
  definition _ := sound.definition present
  clamped := sound.clamped

theorem UnitRecord.Sound.becomeLost (sound : r.Sound) (present : r.state ≠ .absent) : r.becomeLost.Sound where
  absent absent := by simp [UnitRecord.becomeLost] at absent
  silent silent := by simp [UnitRecord.becomeLost] at silent
  frozen := rfl
  flowLoss stamped := by simp [UnitRecord.becomeLost] at stamped
  demand _ := rfl
  capacity _ := rfl
  rating := Nat.zero_le _
  derated := by simp [UnitRecord.becomeLost]
  noCause := by simp [UnitRecord.becomeLost]
  cause := by simp [UnitRecord.becomeLost]
  definition _ := sound.definition present
  clamped := sound.clamped

/-- A unit on line becomes silent, its demand frozen where it is SERVING (R96). -/
theorem UnitRecord.Sound.silenced (sound : r.Sound) (onLine : r.state = .serving ∨ r.state = .tripping) :
    UnitRecord.Sound { r with silent := true, frozen := r.serving || r.frozen } where
  absent absent := by rcases onLine with state | state <;> simp [state] at absent
  silent _ := onLine
  frozen := by
    rcases onLine with state | state <;> simp [UnitRecord.serving, state, sound.frozen]
  flowLoss := sound.flowLoss
  demand := sound.demand
  capacity := sound.capacity
  rating := sound.rating
  derated := sound.derated
  noCause := sound.noCause
  cause := sound.cause
  definition := sound.definition
  clamped := sound.clamped

/-- A LOCKED unit returned to IDLE (R95). -/
theorem UnitRecord.Sound.restored (sound : r.Sound) (locked : r.state = .locked) :
    UnitRecord.Sound { r with state := .idle, tripCause := .none } where
  absent absent := by simp at absent
  silent silent := by simpa [locked] using sound.silent silent
  frozen := sound.frozen.trans (by rw [UnitRecord.serving, locked]; rfl)
  flowLoss stamped := by simpa [locked] using sound.flowLoss stamped
  demand _ := sound.demand (by simp [locked])
  capacity _ := sound.capacity (by simp [locked])
  rating := sound.rating
  derated := by simpa [locked] using sound.derated
  noCause _ := rfl
  cause := by simp
  definition _ := sound.definition (by simp [locked])
  clamped := sound.clamped

theorem defineValuesBad_eq_false_iff (node rated vMax tDerate tTrip : Nat) :
    defineValuesBad node rated vMax tDerate tTrip = false ↔
      (1 ≤ node ∧ node ≤ 62) ∧ rated ≠ 0 ∧ 100000 ≤ vMax ∧ vMax ≤ 4000000 ∧ tTrip ≤ 1500 ∧ tDerate < tTrip := by
  simp [defineValuesBad, isNode_iff, and_assoc]

/-- A unit just defined with values in their ranges (R84). -/
theorem State.definedUnit_sound (s : State) {node rated vMax tDerate tTrip : Nat}
    (good : defineValuesBad node rated vMax tDerate tTrip = false) :
    (s.definedUnit node rated vMax tDerate tTrip).Sound := by
  obtain ⟨⟨low, high⟩, rating, vLow, vHigh, trip, derate⟩ := (defineValuesBad_eq_false_iff _ _ _ _ _).mp good
  constructor <;> simp [State.definedUnit, UnitRecord.empty, UnitRecord.serving, topNode]
  omega

/-! ### What a report changes of a record (R87, R89, R91, R92, R98) -/

/-- The state that step 3 of R87 gives, by the state and the trip cause before it and the reported breaker position. -/
def UnitState.byBreaker (state : UnitState) (cause : TripCause) (closed : Bool) : UnitState :=
  match state, closed with
  | .idle, true => .serving
  | .serving, false => .idle
  | .tripping, false => .locked
  | .lost, true => if cause = .none then .serving else .tripping
  | .lost, false => if cause = .none then .idle else .locked
  | state, _ => state

theorem UnitState.byBreaker_ne_serving (cause : TripCause) (closed : Bool) :
    UnitState.byBreaker .tripping cause closed ≠ .serving ∧
      (cause ≠ .none → UnitState.byBreaker .lost cause closed ≠ .serving) := by
  constructor
  · cases closed <;> simp [UnitState.byBreaker]
  · intro named
    cases closed <;> simp [UnitState.byBreaker, named]

/-- Only a LOST unit that carries a trip cause comes to TRIPPING by its breaker position (R98). -/
theorem UnitState.byBreaker_tripping {state : UnitState} {cause : TripCause} {closed : Bool}
    (tripping : state.byBreaker cause closed = .tripping) : state = .tripping ∨ state = .lost ∧ cause ≠ .none := by
  by_cases named : cause = .none <;> cases state <;> cases closed <;> simp_all [UnitState.byBreaker]

/-- Step 3 of R87: beside the state it changes a record only where a unit leaves SERVING. -/
theorem UnitRecord.movedByReport_eq (r : UnitRecord) :
    r.movedByReport =
      if r.state = .serving ∧ r.breakerClosed = false then r.leftServing
      else { r with state := r.state.byBreaker r.tripCause r.breakerClosed } := by
  unfold UnitRecord.movedByReport
  split
  case h_4 lost => split <;> next named => cases r.breakerClosed <;> simp [lost, named, UnitState.byBreaker]
  case h_5 notLost notEntered notLeft notLocked =>
    have stays : r.state.byBreaker r.tripCause r.breakerClosed = r.state := by
      cases state : r.state <;> cases closed : r.breakerClosed <;> simp_all [UnitState.byBreaker]
    rw [if_neg fun left => notLeft left.1 left.2, stays]
  all_goals simp [*, UnitState.byBreaker]

theorem UnitRecord.movedByReport_frame (r : UnitRecord) :
    r.movedByReport =
      { r with
        state := r.state.byBreaker r.tripCause r.breakerClosed
        flowLossStamp := r.movedByReport.flowLossStamp, demand := r.movedByReport.demand } := by
  rw [UnitRecord.movedByReport_eq]
  split
  · next left =>
    have idle : r.state.byBreaker r.tripCause r.breakerClosed = .idle := by rw [left.1, left.2]; rfl
    rw [idle]
    rfl
  · rfl

/-- Step 4 of R87 applies where step 3 leaves the unit SERVING, at its trip temperature or above. -/
theorem UnitRecord.overheated_movedByReport (r : UnitRecord) :
    r.movedByReport.overheated = true ↔
      r.state.byBreaker r.tripCause r.breakerClosed = .serving ∧ r.tTrip ≤ r.temperature := by
  rw [UnitRecord.overheated_iff, UnitRecord.movedByReport_frame]

theorem UnitRecord.settledState_hot (hot : r.movedByReport.overheated = true) :
    r.settledState = r.movedByReport.tripped .temperature := if_pos hot

theorem UnitRecord.settledState_cool (cool : ¬ r.movedByReport.overheated = true) : r.settledState = r.movedByReport :=
  if_neg cool

theorem UnitRecord.settledState_state_hot (hot : r.movedByReport.overheated = true) :
    r.settledState.state = .tripping ∧ r.settledState.tripCause = .temperature ∧ r.settledState.demand = 0 := by
  rw [UnitRecord.settledState_hot hot]
  exact ⟨rfl, rfl, rfl⟩

theorem UnitRecord.settledState_state_cool (cool : ¬ r.movedByReport.overheated = true) :
    r.settledState.state = r.state.byBreaker r.tripCause r.breakerClosed ∧ r.settledState.tripCause = r.tripCause := by
  rw [UnitRecord.settledState_cool cool, UnitRecord.movedByReport_frame]
  exact ⟨rfl, rfl⟩

/-- A unit that is SERVING after step 4 is below its trip temperature, and its record is otherwise as stored. -/
theorem UnitRecord.settledState_serving (serving : r.settledState.state = .serving) :
    r.settledState = { r with state := .serving } ∧ r.temperature < r.tTrip := by
  have cool : ¬ r.movedByReport.overheated = true := fun hot => by
    simp [(UnitRecord.settledState_state_hot hot).1] at serving
  have stays := (UnitRecord.settledState_state_cool cool).1.symm.trans serving
  have notLeft : ¬ (r.state = .serving ∧ r.breakerClosed = false) := fun left => by
    simp [left.1, left.2, UnitState.byBreaker] at stays
  refine ⟨?_, ?_⟩
  · rw [UnitRecord.settledState_cool cool, UnitRecord.movedByReport_eq, if_neg notLeft, stays]
  · exact not_le.mp fun hot => cool (r.overheated_movedByReport.mpr ⟨stays, hot⟩)

/-- A unit that leaves SERVING loses its demand (R87, R92). -/
theorem UnitRecord.settledState_left (serving : r.state = .serving) (left : r.settledState.state ≠ .serving) :
    r.settledState.demand = 0 := by
  by_cases hot : r.movedByReport.overheated = true
  · exact (UnitRecord.settledState_state_hot hot).2.2
  · rw [(UnitRecord.settledState_state_cool hot).1] at left
    have opened : r.breakerClosed = false := by
      cases closed : r.breakerClosed <;> simp [serving, closed, UnitState.byBreaker] at left ⊢
    rw [UnitRecord.settledState_cool hot, UnitRecord.movedByReport_eq, if_pos ⟨serving, opened⟩]
    rfl

/-- UNIT TRIP is due exactly where a report brings a unit to TRIPPING by its temperature: a unit that was TRIPPING before
or that returns from LOST with a trip cause is not tripped again (R87, R92, R98). -/
theorem UnitRecord.overheated_iff_tripped (r : UnitRecord) :
    r.movedByReport.overheated = true ↔
      r.settledState.state = .tripping ∧ r.state ≠ .tripping ∧ r.settledState.tripCause = .temperature ∧
        (r.state = .lost → r.tripCause = .none) := by
  constructor
  · intro hot
    obtain ⟨tripping, cause, _⟩ := UnitRecord.settledState_state_hot hot
    have stays := (r.overheated_movedByReport.mp hot).1
    refine ⟨tripping, fun before => ?_, cause, fun lost => ?_⟩
    · exact (UnitState.byBreaker_ne_serving _ _).1 (before ▸ stays)
    · exact not_not.mp fun named => (UnitState.byBreaker_ne_serving _ _).2 named (lost ▸ stays)
  · rintro ⟨tripping, before, _, uncaused⟩
    by_contra cool
    rcases UnitState.byBreaker_tripping ((UnitRecord.settledState_state_cool cool).1.symm.trans tripping) with
      same | ⟨lost, named⟩
    · exact before same
    · exact named (uncaused lost)

/-- What steps 3 and 4 of R87 can change of a record. -/
theorem UnitRecord.settledState_frame (r : UnitRecord) :
    r.settledState =
      { r with
        state := r.settledState.state, tripCause := r.settledState.tripCause
        flowLossStamp := r.settledState.flowLossStamp, frozen := r.settledState.frozen
        demand := r.settledState.demand, capacity := r.settledState.capacity, derated := r.settledState.derated } := by
  unfold UnitRecord.settledState
  split
  · rw [UnitRecord.movedByReport_frame]
    rfl
  · rw [UnitRecord.movedByReport_frame]

/-- Steps 5 to 7 of R87: of a SERVING unit the flow-loss stamp, the capacity with the derated flag, and the demand in
ADOPT; any other unit has no capacity. -/
theorem UnitRecord.finished_serving (serving : r.state = .serving) (now : Nat) (mode : LineMode) :
    ((r.notedFlow now).withCapacity).echoed mode =
      let capacity := if r.flowOk then r.temperatureCapacity else r.temperatureCapacity / 2
      { r with
        flowLossStamp := if r.flowOk then none else some (r.flowLossStamp.getD now)
        capacity := capacity, derated := capacity < r.rated
        demand := if mode = .adopt then r.measured else r.demand } := by
  cases flow : r.flowOk <;> by_cases adopt : mode = .adopt <;>
    simp [UnitRecord.notedFlow, UnitRecord.withCapacity, UnitRecord.computedCapacity, UnitRecord.temperatureCapacity,
      UnitRecord.echoed, UnitRecord.serving, serving, flow, adopt]

theorem UnitRecord.finished_other (other : r.state ≠ .serving) (now : Nat) (mode : LineMode) :
    ((r.notedFlow now).withCapacity).echoed mode = { r with capacity := 0, derated := false } := by
  have idle := r.serving_eq_false_iff.mpr other
  have noted : r.notedFlow now = r := if_neg (by simp [idle])
  have echoed : r.withCapacity.echoed mode = r.withCapacity := if_neg fun echo => other (r.serving_iff.mp echo.2)
  rw [noted, echoed]
  simp [UnitRecord.withCapacity, UnitRecord.computedCapacity, idle]

theorem State.reportedUnit_frame (s : State) (r : UnitRecord) (measured temperature : Nat) (flowOk closed : Bool) :
    let q := (r.stored s.now measured temperature flowOk closed).settledState
    let r' := s.reportedUnit r measured temperature flowOk closed
    r' =
      { q with
        flowLossStamp := r'.flowLossStamp, capacity := r'.capacity, derated := r'.derated, demand := r'.demand } := by
  intro q r'
  by_cases serving : q.state = .serving
  · have finished : r' = _ := UnitRecord.finished_serving serving s.now s.current.mode
    rw [finished]
  · have finished : r' = _ := UnitRecord.finished_other serving s.now s.current.mode
    rw [finished]

/-- A report leaves the definition of its unit (R87). -/
theorem State.reportedUnit_node (s : State) (r : UnitRecord) (measured temperature : Nat) (flowOk closed : Bool) :
    (s.reportedUnit r measured temperature flowOk closed).node = r.node := by
  rw [State.reportedUnit_frame, UnitRecord.settledState_frame]
  rfl

/-! ### A report keeps the record sound -/

/-- A record while a report is taken: sound but for the capacity and the derated flag, which step 6 of R87 computes. -/
structure UnitRecord.InReport (r : UnitRecord) : Prop where
  present : r.state ≠ .absent
  silent : r.silent = false
  frozen : r.frozen = false
  flowLoss : r.flowLossStamp.isSome = true → r.state = .serving
  demand : r.state ≠ .serving → r.demand = 0
  noCause : r.state = .idle ∨ r.state = .serving → r.tripCause = .none
  cause : r.state = .tripping ∨ r.state = .locked → r.tripCause ≠ .none
  definition : 1 ≤ r.node ∧ r.node ≤ topNode ∧ 1 ≤ r.rated ∧ 100000 ≤ r.vMax ∧ r.vMax ≤ 4000000 ∧
    r.tDerate < r.tTrip ∧ r.tTrip ≤ 1500
  clamped : r.temperature ≤ 1500

/-- Steps 1 and 2 of R87. -/
theorem UnitRecord.Sound.stored (sound : r.Sound) (present : r.state ≠ .absent)
    (now measured temperature : Nat) (flowOk closed : Bool) :
    (r.stored now measured temperature flowOk closed).InReport where
  present := present
  silent := rfl
  frozen := by
    have frozen := sound.frozen
    cases silent : r.silent <;> simp_all [UnitRecord.stored]
  flowLoss := sound.flowLoss
  demand := sound.demand
  noCause := sound.noCause
  cause := sound.cause
  definition := sound.definition present
  clamped := Nat.min_le_right _ _

/-- A record moved to another state in a report, where the new state allows its demand, its flow-loss stamp and its cause. -/
theorem UnitRecord.InReport.moved (fits : r.InReport) (state : UnitState) (present : state ≠ .absent)
    (left : r.state = .serving → state = .serving)
    (noCause : state = .idle ∨ state = .serving → r.tripCause = .none)
    (cause : state = .tripping ∨ state = .locked → r.tripCause ≠ .none) :
    UnitRecord.InReport { r with state := state } where
  present := present
  silent := fits.silent
  frozen := fits.frozen
  flowLoss stamped := left (fits.flowLoss stamped)
  demand other := fits.demand fun serving => other (left serving)
  noCause := noCause
  cause := cause
  definition := fits.definition
  clamped := fits.clamped

theorem UnitRecord.InReport.leftServing (fits : r.InReport) (serving : r.state = .serving) : r.leftServing.InReport where
  present := by simp [UnitRecord.leftServing]
  silent := fits.silent
  frozen := fits.frozen
  flowLoss stamped := by simp [UnitRecord.leftServing] at stamped
  demand _ := rfl
  noCause _ := fits.noCause (.inr serving)
  cause := by simp [UnitRecord.leftServing]
  definition := fits.definition
  clamped := fits.clamped

/-- Step 3 of R87. -/
theorem UnitRecord.InReport.movedByReport (fits : r.InReport) : r.movedByReport.InReport := by
  unfold UnitRecord.movedByReport
  split
  case h_1 idle _ =>
    exact fits.moved _ (by simp) (by simp) (fun _ => fits.noCause (.inl idle)) (by simp)
  case h_2 serving _ => exact fits.leftServing serving
  case h_3 tripping _ =>
    exact fits.moved _ (by simp) (by simp [tripping]) (by simp) (fun _ => fits.cause (.inl tripping))
  case h_4 lost =>
    split
    · next none => split <;> exact fits.moved _ (by simp) (by simp [lost]) (fun _ => none) (by simp)
    · next some => split <;> exact fits.moved _ (by simp) (by simp [lost]) (by simp) (fun _ => some)
  case h_5 => exact fits

/-- Step 4 of R87. -/
theorem UnitRecord.InReport.settledState (fits : r.InReport) : r.settledState.InReport := by
  have moved := fits.movedByReport
  unfold UnitRecord.settledState
  split
  · exact
      { present := by simp [UnitRecord.tripped]
        silent := moved.silent
        frozen := rfl
        flowLoss := by simp [UnitRecord.tripped]
        demand := fun _ => rfl
        noCause := by simp [UnitRecord.tripped]
        cause := by simp [UnitRecord.tripped]
        definition := moved.definition
        clamped := moved.clamped }
  · exact moved

/-- Step 5 of R87. -/
theorem UnitRecord.InReport.notedFlow (fits : r.InReport) (now : Nat) : (r.notedFlow now).InReport := by
  unfold UnitRecord.notedFlow
  split
  · next serving =>
    exact { fits with flowLoss := fun _ => r.serving_iff.mp serving }
  · exact fits

theorem UnitRecord.temperatureCapacity_le (order : r.tDerate < r.tTrip) : r.temperatureCapacity ≤ r.rated := by
  unfold UnitRecord.temperatureCapacity
  split
  · exact le_rfl
  · split
    · next hot _ =>
      refine Nat.div_le_of_le_mul ?_
      rw [Nat.mul_comm]
      exact Nat.mul_le_mul_right _ (by omega)
    · exact Nat.zero_le _

theorem UnitRecord.computedCapacity_le (order : r.tDerate < r.tTrip) : r.computedCapacity ≤ r.rated := by
  have full := UnitRecord.temperatureCapacity_le order
  unfold UnitRecord.computedCapacity
  split_ifs <;> omega

theorem UnitRecord.computedCapacity_of_not_serving (other : r.state ≠ .serving) : r.computedCapacity = 0 := by
  simp [UnitRecord.computedCapacity, r.serving_eq_false_iff.mpr other]

/-- Step 6 of R87. -/
theorem UnitRecord.InReport.withCapacity (fits : r.InReport) : r.withCapacity.Sound where
  absent absent := absurd absent fits.present
  silent silent := by simp [UnitRecord.withCapacity, fits.silent] at silent
  frozen := by simp [UnitRecord.withCapacity, fits.silent, fits.frozen]
  flowLoss := fits.flowLoss
  demand := fits.demand
  capacity := UnitRecord.computedCapacity_of_not_serving
  rating := by
    obtain ⟨_, _, _, _, _, order, _⟩ := fits.definition
    exact UnitRecord.computedCapacity_le order
  derated := by simp [UnitRecord.withCapacity, UnitRecord.serving]
  noCause := fits.noCause
  cause := fits.cause
  definition _ := fits.definition
  clamped := fits.clamped

/-- Step 7 of R87. -/
theorem UnitRecord.Sound.echoed (sound : r.Sound) (mode : LineMode) : (r.echoed mode).Sound := by
  unfold UnitRecord.echoed
  split
  · next echo => exact sound.withDemand (r.serving_iff.mp echo.2) _
  · exact sound

/-- The steps of a report on the record keep it sound (R87). -/
theorem UnitRecord.Sound.reported (sound : r.Sound) (present : r.state ≠ .absent) (s : State)
    (measured temperature : Nat) (flowOk closed : Bool) :
    (s.reportedUnit r measured temperature flowOk closed).Sound :=
  (((sound.stored present s.now measured temperature flowOk closed).settledState.notedFlow s.now).withCapacity).echoed _

end Records

end Sys2Proof.Machine
end

section
/-! PROOFS. The unit table: the agreement of its records after one write, and the operations and servings that write no
unit record but for the split of an evaluation (R82, R84, R126). -/

namespace Sys2Proof.Machine

section Table

variable {s t : State} {u : Nat}

/-! ### The records of the table -/

theorem isUnit_eq_false_iff (u : Nat) : isUnit u = false ↔ u < 1 ∨ 8 < u := by
  rw [← Bool.not_eq_true, isUnit_iff]
  omega

theorem State.unit_outside (s : State) (u : Nat) (out : ¬ isUnit u = true) : s.unit u = UnitRecord.empty := by
  rw [isUnit_iff] at out
  exact tget_outside _ _ _ (by omega)

theorem State.isUnit_of_present (present : (s.unit u).state ≠ .absent) : isUnit u = true :=
  not_not.mp fun out => present (by rw [State.unit_outside s u out]; rfl)

theorem State.units_toList (s : State) : s.units.toList = [1, 2, 3, 4, 5, 6, 7, 8].map s.unit := by
  refine List.ext_getElem (by simp) fun i inside _ => ?_
  have low : i < 8 := by simpa using inside
  interval_cases i <;> simp [State.unit, tget]

theorem State.unit_unsplit_congr (same : t.unsplitUnits = s.unsplitUnits) (u : Nat) :
    (t.unit u).unsplit = (s.unit u).unsplit := by
  have read : ∀ v : State, tget UnitRecord.empty v.unsplitUnits u = (v.unit u).unsplit := fun v =>
    tget_map UnitRecord.unsplit UnitRecord.empty v.units u
  rw [← read, ← read, same]

theorem State.nodeDefined_eq (s : State) (node : Nat) :
    s.nodeDefined node =
      [1, 2, 3, 4, 5, 6, 7, 8].any fun w => (s.unit w).state != .absent && (s.unit w).node == node := by
  rw [State.nodeDefined, State.units_toList, List.any_map]
  rfl

theorem State.nodeDefined_eq_false_iff (node : Nat) :
    s.nodeDefined node = false ↔ ∀ v, isUnit v = true → (s.unit v).state ≠ .absent → (s.unit v).node ≠ node := by
  have numbers : ∀ v, v ∈ [1, 2, 3, 4, 5, 6, 7, 8] ↔ isUnit v = true := fun v => by
    rw [isUnit_iff]
    simp only [List.mem_cons, List.not_mem_nil, or_false]
    omega
  simp only [State.nodeDefined_eq, List.any_eq_false, numbers]
  simp

/-! ### The agreement of the unit records -/

theorem State.UnitsSound.of_unsplit (sound : s.UnitsSound) (same : t.unsplitUnits = s.unsplitUnits) : t.UnitsSound := by
  have entry := State.unit_unsplit_congr same
  have state : ∀ v, (t.unit v).state = (s.unit v).state := fun v => (congrArg UnitRecord.state (entry v) :)
  have node : ∀ v, (t.unit v).node = (s.unit v).node := fun v => (congrArg UnitRecord.node (entry v) :)
  constructor
  · intro v known
    rw [← UnitRecord.unsplit_sound_iff, entry, UnitRecord.unsplit_sound_iff]
    exact sound.records v known
  · intro v w
    rw [state, state, node, node]
    exact sound.nodes v w

/-- One record written that is sound and, unless it is ABSENT, shares its node with no other unit. -/
theorem State.UnitsSound.putUnit (sound : s.UnitsSound) (u : Nat) {r : UnitRecord} (fits : r.Sound)
    (alone : r.state ≠ .absent → ∀ v, isUnit v = true → v ≠ u → (s.unit v).state ≠ .absent → (s.unit v).node ≠ r.node) :
    (s.putUnit u r).UnitsSound := by
  have written : ∀ v, isUnit v = true → (s.putUnit u r).unit v = if v = u then r else s.unit v := by
    intro v known
    split
    · next same =>
      subst same
      exact State.unit_putUnit_same s v r known
    · next other => exact State.unit_putUnit_other s u v r other
  constructor
  · intro v known
    rw [written v known]
    split
    · exact fits
    · exact sound.records v known
  · intro v w knownV knownW presentV presentW same
    rw [written v knownV] at presentV same
    rw [written w knownW] at presentW same
    by_contra differ
    by_cases isV : v = u
    · have other : w ≠ u := fun isW => differ (isV.trans isW.symm)
      rw [if_pos isV] at presentV same
      rw [if_neg other] at presentW same
      exact alone presentV w knownW other presentW same.symm
    · rw [if_neg isV] at presentV same
      by_cases isW : w = u
      · rw [if_pos isW] at presentW same
        exact alone presentW v knownV isV presentV same
      · rw [if_neg isW] at presentW same
        exact differ (sound.nodes v w knownV knownW presentV presentW same)

/-- One record rewritten: a unit that is not ABSENT keeps its node. -/
theorem State.UnitsSound.rewritten (sound : s.UnitsSound) (present : (s.unit u).state ≠ .absent) {r : UnitRecord}
    (fits : (s.unit u).Sound → r.Sound) (node : r.node = (s.unit u).node) : (s.putUnit u r).UnitsSound := by
  have known := State.isUnit_of_present present
  refine sound.putUnit u (fits (sound.records u known)) fun _ v knownV other presentV same => ?_
  exact other (sound.nodes v u knownV known presentV present (same.trans node))

/-! ### Operations that write no unit record -/

theorem State.unsplitUnits_congr (same : t.units = s.units) : t.unsplitUnits = s.unsplitUnits :=
  congrArg (Vector.map UnitRecord.unsplit) same

@[simp] theorem State.eventEvaluation_unsplitUnits (s : State) : s.eventEvaluation.unsplitUnits = s.unsplitUnits :=
  State.evaluate_unsplitUnits s false

@[simp] theorem State.raise_unsplitUnits (s : State) (source : Source) (detail : Nat) :
    (s.raise source detail).unsplitUnits = s.unsplitUnits := rfl

@[simp] theorem State.raiseIf_unsplitUnits (s : State) (c : Bool) (source : Source) (detail : Nat) :
    (s.raiseIf c source detail).unsplitUnits = s.unsplitUnits := by
  cases c <;> rfl

@[simp] theorem State.putPot_unsplitUnits (s : State) (p : Nat) (r : PotRecord) :
    (s.putPot p r).unsplitUnits = s.unsplitUnits := rfl

@[simp] theorem State.freeSlotOf_unsplitUnits (s : State) (p : Nat) : (s.freeSlotOf p).unsplitUnits = s.unsplitUnits := by
  rw [State.freeSlotOf_frame]
  rfl

@[simp] theorem State.enterQuenchQueue_unsplitUnits (s : State) (p : Nat) :
    (s.enterQuenchQueue p).unsplitUnits = s.unsplitUnits := rfl

@[simp] theorem State.leaveQuenchQueue_unsplitUnits (s : State) (p : Nat) :
    (s.leaveQuenchQueue p).unsplitUnits = s.unsplitUnits := rfl

@[simp] theorem State.grantEvaluation_unsplitUnits (s : State) : s.grantEvaluation.unsplitUnits = s.unsplitUnits :=
  State.grantLoop_keeps State.unsplitUnits State.grant_unsplitUnits 4 s

@[simp] theorem State.cycleWork_unsplitUnits (s : State) (arbiterFirst : Bool) :
    (s.cycleWork arbiterFirst).unsplitUnits = s.unsplitUnits :=
  State.cycleWork_keeps State.unsplitUnits (fun s => State.evaluate_unsplitUnits s true) State.grant_unsplitUnits s
    arbiterFirst

@[simp] theorem State.compareHead_unsplitUnits (s : State) : s.compareHead.unsplitUnits = s.unsplitUnits := by
  rw [State.compareHead_frame]
  rfl

@[simp] theorem State.endSwitch_unsplitUnits (s : State) (p : Nat) (result : SwitchResult) :
    (s.endSwitch p result).unsplitUnits = s.unsplitUnits := by
  rw [State.endSwitch_frame]
  rfl

@[simp] theorem State.expireSwitch_unsplitUnits (s : State) (p : Nat) (result : SwitchResult) :
    (s.expireSwitch p result).unsplitUnits = s.unsplitUnits :=
  State.endSwitch_unsplitUnits s p result

@[simp] theorem State.startSwitch_unsplitUnits (s : State) (p : Nat) (d : Direction) :
    (s.startSwitch p d).unsplitUnits = s.unsplitUnits := by
  rw [State.startSwitch_eq]
  split
  · exact State.eventEvaluation_unsplitUnits _
  · rfl

@[simp] theorem State.completeSwitch_unsplitUnits (s : State) (p : Nat) :
    (s.completeSwitch p).unsplitUnits = s.unsplitUnits := by
  have applied : (s.applySwitch p).unsplitUnits = s.unsplitUnits := by
    unfold State.applySwitch
    split
    · split <;> rfl
    · rfl
  unfold State.completeSwitch
  rw [State.raise_unsplitUnits, State.endSwitch_unsplitUnits, applied]

@[simp] theorem State.endQuench_unsplitUnits (s : State) (p : Nat) : (s.endQuench p).unsplitUnits = s.unsplitUnits :=
  State.freeSlotOf_unsplitUnits s p

@[simp] theorem State.settleExpired_unsplitUnits (s : State) (p : Nat) :
    (s.settleExpired p).unsplitUnits = s.unsplitUnits := rfl

@[simp] theorem State.permitExpired_unsplitUnits (s : State) (k p : Nat) :
    (s.permitExpired k p).unsplitUnits = s.unsplitUnits := rfl

@[simp] theorem State.confirmEffect_unsplitUnits (s : State) (p : Nat) :
    (s.confirmEffect p).unsplitUnits = s.unsplitUnits := by
  have cancelled : ∀ t : State, (t.cancelByEffect p).unsplitUnits = t.unsplitUnits := fun t => by
    unfold State.cancelByEffect
    split <;> simp
  unfold State.confirmEffect
  simp [cancelled]

@[simp] theorem State.endEffect_unsplitUnits (s : State) (p : Nat) : (s.endEffect p).unsplitUnits = s.unsplitUnits := by
  have released : (s.releaseClaim p).unsplitUnits = s.unsplitUnits := by
    unfold State.releaseClaim
    split <;> simp
  exact released

@[simp] theorem State.escalate_unsplitUnits (s : State) (p : Nat) : (s.escalate p).unsplitUnits = s.unsplitUnits := by
  unfold State.escalate
  dsimp only
  split <;> simp

@[simp] theorem State.examineReport_unsplitUnits (s : State) (p : Nat) :
    (s.examineReport p).unsplitUnits = s.unsplitUnits := by
  rcases State.examineReport_cases s p with h | ⟨r, h, _⟩ | h | h <;> rw [h] <;> simp

@[simp] theorem State.acceptReport_unsplitUnits (s : State) (p v : Nat) :
    (s.acceptReport p v).unsplitUnits = s.unsplitUnits := by
  unfold State.acceptReport
  dsimp only
  split <;> simp

theorem State.takeItems_unsplitUnits (node : Nat) (items : List ReportItem) (s : State) :
    (State.takeItems node items s).1.unsplitUnits = s.unsplitUnits := by
  induction items generalizing s with
  | nil => rfl
  | cons i rest ih =>
    refine (ih (s.takeItem node i).1).trans ?_
    unfold State.takeItem
    dsimp only
    split <;> simp

/-! ### The metering tick (R136) -/

theorem State.periodClosed_units (s : State) : s.periodClosed.units = s.units := by
  unfold State.periodClosed
  split <;> rfl

theorem State.tick_units (s : State) (shed : Bool) : (s.tick shed).units = s.units := by
  have moved : ∀ t : State, t.calendarMoved.units = t.units := fun t => by
    unfold State.calendarMoved
    split <;> rfl
  have closed : ∀ t : State, t.closeOrProject.units = t.units := fun t => by
    unfold State.closeOrProject
    split
    · exact State.periodClosed_units _
    · unfold State.project
      dsimp only
      split <;> rfl
  exact (closed _).trans (moved _)

/-! ### Requests -/

theorem State.loadFrame_unsplitUnits (s : State) (serve : State → State × Reply)
    (served : ∀ t, (serve t).1.unsplitUnits = t.unsplitUnits) : (s.loadFrame serve).unsplitUnits = s.unsplitUnits :=
  State.loadFrame_keeps (fun t => t.unsplitUnits = s.unsplitUnits) s serve rfl (fun t kept => (served t).trans kept)
    (fun _ _ _ kept => kept)

theorem State.lineRequest_unsplitUnits (s : State) (serve : State → State × Reply)
    (served : ∀ t, (serve t).1.unsplitUnits = t.unsplitUnits) : (s.lineRequest serve).unsplitUnits = s.unsplitUnits :=
  State.loadFrame_unsplitUnits s _ fun t => served t.abandonLoad

theorem State.fieldRequest_unsplitUnits (s : State) (kinds : List NodeKind) (serve : Nat → State → State × Reply)
    (served : ∀ node t, (serve node t).1.unsplitUnits = t.unsplitUnits) :
    (s.fieldRequest kinds serve).unsplitUnits = s.unsplitUnits :=
  State.fieldRequest_keeps (fun t => t.unsplitUnits = s.unsplitUnits) s kinds serve rfl (fun _ kept => kept)
    (fun node t kept => (served node t).trans kept) (fun _ _ kept => kept)

theorem State.UnitsSound.lineRequest (sound : s.UnitsSound) (serve : State → State × Reply)
    (served : ∀ t : State, t.UnitsSound → (serve t).1.UnitsSound) : (s.lineRequest serve).UnitsSound :=
  State.lineRequest_keeps State.UnitsSound s serve sound (fun _ kept => kept.of_unsplit rfl) served
    (fun _ _ _ kept => kept.of_unsplit rfl)

theorem State.UnitsSound.fieldRequest (sound : s.UnitsSound) (kinds : List NodeKind)
    (serve : Nat → State → State × Reply) (served : ∀ node (t : State), t.UnitsSound → (serve node t).1.UnitsSound) :
    (s.fieldRequest kinds serve).UnitsSound :=
  State.fieldRequest_keeps State.UnitsSound s kinds serve sound (fun _ kept => kept.of_unsplit rfl) served
    (fun _ _ kept => kept.of_unsplit rfl)

/-! ### Servings that write no unit record -/

@[simp] theorem State.serveQuenchEnd_unsplitUnits (s : State) (node p tag : Nat) :
    (s.serveQuenchEnd node p tag).1.unsplitUnits = s.unsplitUnits := by
  unfold State.serveQuenchEnd
  dsimp only
  split <;> simp

@[simp] theorem State.serveSwitchRequest_unsplitUnits (s : State) (node p tag direction : Nat) :
    (s.serveSwitchRequest node p tag direction).1.unsplitUnits = s.unsplitUnits := by
  unfold State.serveSwitchRequest
  dsimp only
  split <;> simp

@[simp] theorem State.serveSwitchDone_unsplitUnits (s : State) (node p tag : Nat) :
    (s.serveSwitchDone node p tag).1.unsplitUnits = s.unsplitUnits := by
  unfold State.serveSwitchDone
  dsimp only
  split <;> simp

@[simp] theorem State.serveSwitchCancel_unsplitUnits (s : State) (node p tag : Nat) :
    (s.serveSwitchCancel node p tag).1.unsplitUnits = s.unsplitUnits := by
  unfold State.serveSwitchCancel
  dsimp only
  split <;> simp

@[simp] theorem State.serveAdmit_unsplitUnits (s : State) (p tag owner initial : Nat) :
    (s.serveAdmit p tag owner initial).1.unsplitUnits = s.unsplitUnits := by
  unfold State.serveAdmit
  dsimp only
  split <;> rfl

@[simp] theorem State.serveRetire_unsplitUnits (s : State) (p tag : Nat) :
    (s.serveRetire p tag).1.unsplitUnits = s.unsplitUnits := by
  unfold State.serveRetire
  dsimp only
  split <;> rfl

@[simp] theorem State.serveAssign_unsplitUnits (s : State) (p tag owner : Nat) :
    (s.serveAssign p tag owner).1.unsplitUnits = s.unsplitUnits := by
  unfold State.serveAssign
  dsimp only
  split_ifs <;> rfl

@[simp] theorem State.serveReadPot_unsplitUnits (s : State) (p : Nat) :
    (s.serveReadPot p).1.unsplitUnits = s.unsplitUnits := by
  unfold State.serveReadPot
  split <;> rfl

@[simp] theorem State.serveReadUnit_unsplitUnits (s : State) (u : Nat) :
    (s.serveReadUnit u).1.unsplitUnits = s.unsplitUnits := by
  unfold State.serveReadUnit
  split <;> rfl

@[simp] theorem State.serveAddNode_unsplitUnits (s : State) (address kind : Nat) :
    (s.serveAddNode address kind).1.unsplitUnits = s.unsplitUnits := by
  unfold State.serveAddNode
  split <;> rfl

@[simp] theorem State.serveDropNode_unsplitUnits (s : State) (address : Nat) :
    (s.serveDropNode address).1.unsplitUnits = s.unsplitUnits := by
  unfold State.serveDropNode
  split
  · rfl
  · split <;> rfl

@[simp] theorem State.serveSetParam_unsplitUnits (s : State) (identifier value : Nat) :
    (s.serveSetParam identifier value).1.unsplitUnits = s.unsplitUnits := by
  unfold State.serveSetParam
  dsimp only [State.answer]
  split_ifs
  exacts [State.eventEvaluation_unsplitUnits _, rfl, rfl]

@[simp] theorem State.serveReadParam_unsplitUnits (s : State) (identifier : Nat) :
    (s.serveReadParam identifier).1.unsplitUnits = s.unsplitUnits := by
  unfold State.serveReadParam
  split <;> rfl

@[simp] theorem State.serveRun_unsplitUnits (s : State) : s.serveRun.1.unsplitUnits = s.unsplitUnits := by
  unfold State.serveRun
  split_ifs
  exacts [rfl, rfl, State.eventEvaluation_unsplitUnits _]

@[simp] theorem State.serveHold_unsplitUnits (s : State) : s.serveHold.1.unsplitUnits = s.unsplitUnits := by
  unfold State.serveHold
  split_ifs
  exacts [rfl, rfl, State.eventEvaluation_unsplitUnits _]

@[simp] theorem State.serveResume_unsplitUnits (s : State) : s.serveResume.1.unsplitUnits = s.unsplitUnits := by
  unfold State.serveResume
  split_ifs
  exacts [rfl, State.eventEvaluation_unsplitUnits _]

@[simp] theorem State.serveSetClock_unsplitUnits (s : State) (time day : Nat) :
    (s.serveSetClock time day).1.unsplitUnits = s.unsplitUnits := by
  unfold State.serveSetClock
  split
  · rfl
  · exact State.unsplitUnits_congr (State.periodClosed_units _)

@[simp] theorem State.serveCurtail_unsplitUnits (s : State) (limit minutes : Nat) :
    (s.serveCurtail limit minutes).1.unsplitUnits = s.unsplitUnits := by
  unfold State.serveCurtail
  split <;> rfl

@[simp] theorem State.serveCancelCurtail_unsplitUnits (s : State) :
    s.serveCancelCurtail.1.unsplitUnits = s.unsplitUnits := by
  unfold State.serveCancelCurtail
  split <;> rfl

@[simp] theorem State.serveReadTariff_unsplitUnits (s : State) (selector : Nat) :
    (s.serveReadTariff selector).1.unsplitUnits = s.unsplitUnits := by
  unfold State.serveReadTariff
  split
  · rfl
  · split <;> rfl

@[simp] theorem State.serveAck_unsplitUnits (s : State) (code count : Nat) :
    (s.serveAck code count).1.unsplitUnits = s.unsplitUnits := by
  unfold State.serveAck
  dsimp only
  split <;> rfl

@[simp] theorem State.serveSetMask_unsplitUnits (s : State) (marks : Nat) :
    (s.serveSetMask marks).1.unsplitUnits = s.unsplitUnits := by
  unfold State.serveSetMask
  split <;> rfl

theorem State.serveLoadTariff_unsplitUnits (s : State) (part : TariffPart) (final : Bool) :
    (s.serveLoadTariff part final).1.unsplitUnits = s.unsplitUnits := by
  have finished : ∀ h working rest, (s.finishLoad h working rest).1.unsplitUnits = s.unsplitUnits := by
    intro h working rest
    unfold State.finishLoad
    split <;> rfl
  unfold State.serveLoadTariff
  split
  · split
    · rfl
    · cases part
      case header h => cases final; exacts [rfl, finished h _ _]
      all_goals rfl
  · cases part
    case working => cases final; exacts [rfl, finished _ _ _]
    all_goals rfl
  · cases part
    case rest => cases final; exacts [rfl, finished _ _ _]
    all_goals rfl

theorem State.takeRange_unsplitUnits (s : State) (first count : Nat) :
    (s.takeRange first count).unsplitUnits = s.unsplitUnits := by
  unfold State.takeRange
  dsimp only
  split_ifs <;> rfl

theorem State.countMiss_unsplitUnits (s : State) : s.countMiss.unsplitUnits = s.unsplitUnits := by
  unfold State.countMiss
  dsimp only
  split
  · split <;> rfl
  · rfl

end Table

end Sys2Proof.Machine
end

section
/-! PROOFS. Every step keeps the agreement of the unit records (R82 to R85, R89, R92, R97). -/

namespace Sys2Proof.Machine

/-! ### The commands that write no unit record -/

/-- The commands that write a unit record: RESET, a unit's report and its examinations, and the requests of R84, R93, R95
and R99. -/
def writesUnits : Instr → Bool
  | .reset | .flowGraceExpiry _ | .unitSilence _ | .unitLoss _ | .unitReport _ _ _ _ _ | .defineUnit _ _ _ _ _ _
  | .removeUnit _ | .tripUnit _ | .restoreUnit _ => true
  | _ => false

/-- Every other command leaves the records but for what a split sets. -/
theorem exec_keeps_unsplitUnits (c : Instr) (s t : State) (other : writesUnits c = false) (done : exec c s = .next t) :
    t.unsplitUnits = s.unsplitUnits := by
  cases c <;> cases other <;> cases done
  case dispatchCycle arbiterFirst =>
    exact (State.compareHead_unsplitUnits _).trans (State.cycleWork_unsplitUnits _ arbiterFirst)
  case meteringTick shed => exact State.unsplitUnits_congr (State.tick_units s shed)
  case dayRollover shed | intervalClose shed | curtailmentExpiry shed =>
    split
    · exact State.unsplitUnits_congr (State.tick_units s shed)
    · rfl
  case potSilence | turn | idleTime | fieldFrameGap | lmFrameRefused | rangeFrameNext | lmReplyEnd => split <;> rfl
  case startHoldExpiry =>
    dsimp only
    split <;> rfl
  case escalation | settleExpiry => split <;> simp
  case permitExpiry | rampFailure | windowExpiry =>
    split
    · split <;> simp
    · rfl
  case miss => split; exacts [State.countMiss_unsplitUnits s, rfl]
  case fieldFrameRefused =>
    dsimp only
    split
    · split <;> rfl
    · rfl
  case lmBreak | lmFrameGap | lmrxIdleReturn => rfl
  case potReport items =>
    exact State.fieldRequest_unsplitUnits s _ _ fun node t => State.takeItems_unsplitUnits node items t
  case switchRequest | switchDone | switchCancel | quenchEnd | pass =>
    refine State.fieldRequest_unsplitUnits s _ _ fun node t => ?_
    simp [State.answer]
  case readPotRange first count => exact s.takeRange_unsplitUnits first count
  case loadTariff part final => exact State.loadFrame_unsplitUnits s _ fun t => t.serveLoadTariff_unsplitUnits part final
  case readNodes | setTarget | readLine | readMeter | readPeriod | closePeriod | lockTariff | getAttention =>
    exact State.lineRequest_unsplitUnits s _ fun _ => rfl
  case admitPot | retirePot | assignOwner | readPot | readUnit | addNode | dropNode | setParam | readParam | run | hold |
      resume | setClock | curtail | cancelCurtail | readTariff | ackAttention | setAttentionMask =>
    refine State.lineRequest_unsplitUnits s _ fun t => ?_
    simp

/-! ### The commands that write one -/

section Writers

variable {s : State} {u : Nat}

theorem State.UnitsSound.tripUnit (sound : s.UnitsSound) (present : (s.unit u).state ≠ .absent) {cause : TripCause}
    (named : cause ≠ .none) : (s.tripUnit u cause).UnitsSound :=
  (sound.rewritten present (fun fits => fits.tripped present named) rfl).of_unsplit
    (State.eventEvaluation_unsplitUnits _)

theorem State.UnitsSound.flowGraceExpiry (sound : s.UnitsSound) {t : State}
    (done : exec (.flowGraceExpiry u) s = .next t) : t.UnitsSound := by
  cases done
  split
  · next due =>
    have serving : (s.unit u).state = .serving := by
      unfold State.flowGraceDue at due
      split at due
      · simp only [Bool.and_eq_true, UnitRecord.serving_iff] at due
        exact due.1
      · cases due
    exact sound.tripUnit (by simp [serving]) (by simp)
  · exact sound

theorem State.UnitsSound.unitSilence (sound : s.UnitsSound) {t : State}
    (done : exec (.unitSilence u) s = .next t) : t.UnitsSound := by
  cases done
  split
  · next due =>
    have onLine : (s.unit u).state = .serving ∨ (s.unit u).state = .tripping := by
      simp only [State.unitSilenceDue, Bool.and_eq_true, UnitRecord.onLine_iff] at due
      exact due.1.1
    have present : (s.unit u).state ≠ .absent := by rcases onLine with state | state <;> simp [state]
    have silenced := sound.rewritten present (fun fits => fits.silenced onLine) rfl
    unfold State.silenceUnit
    dsimp only
    split
    · exact silenced.of_unsplit (State.eventEvaluation_unsplitUnits _)
    · exact silenced
  · exact sound

theorem State.UnitsSound.unitLoss (sound : s.UnitsSound) {t : State}
    (done : exec (.unitLoss u) s = .next t) : t.UnitsSound := by
  cases done
  split
  · next due =>
    have present : (s.unit u).state ≠ .absent := by
      simp only [State.unitLossDue, Bool.and_eq_true, UnitRecord.onLine_iff] at due
      rcases due.1 with state | state <;> simp [state]
    exact (sound.rewritten present (fun fits => fits.becomeLost present) rfl).of_unsplit
      (State.eventEvaluation_unsplitUnits _)
  · exact sound

theorem State.unitReportStatus_done_iff (s : State) (node u : Nat) :
    s.unitReportStatus node u = .done ↔
      isUnit u = true ∧ (s.unit u).state ≠ .absent ∧ (s.unit u).node = node := by
  unfold State.unitReportStatus
  split_ifs <;> simp_all

/-- The record but for its demand after an accepted report, whatever is raised and evaluated (R87, R104). -/
theorem State.acceptUnitReport_unsplitUnits (s : State) (u measured temperature : Nat) (flowOk closed : Bool) :
    (s.acceptUnitReport u measured temperature flowOk closed).unsplitUnits =
      (s.putUnit u (s.reportedUnit (s.unit u) measured temperature flowOk closed)).unsplitUnits := by
  unfold State.acceptUnitReport
  dsimp only
  split <;> simp

theorem State.UnitsSound.serveUnitReport (sound : s.UnitsSound) (node u measured temperature : Nat)
    (flowOk closed : Bool) : (s.serveUnitReport node u measured temperature flowOk closed).1.UnitsSound := by
  unfold State.serveUnitReport
  dsimp only
  split
  · next passed =>
    obtain ⟨_, present, _⟩ := (State.unitReportStatus_done_iff s node u).mp passed
    exact (sound.rewritten present (fun fits => fits.reported present s measured temperature flowOk closed)
      (State.reportedUnit_node s _ _ _ _ _)).of_unsplit (State.acceptUnitReport_unsplitUnits s _ _ _ _ _)
  · exact sound

theorem State.UnitsSound.serveTripUnit (sound : s.UnitsSound) (u : Nat) : (s.serveTripUnit u).1.UnitsSound := by
  unfold State.serveTripUnit
  split_ifs with _ serving
  · exact sound
  · exact sound.tripUnit (by simp [(UnitRecord.serving_iff _).mp serving]) (by simp)
  · exact sound

theorem State.defineStatus_done_iff (s : State) (u node rated vMax tDerate tTrip : Nat) :
    s.defineStatus u node rated vMax tDerate tTrip = .done ↔
      isUnit u = true ∧ (s.unit u).state = .absent ∧ defineValuesBad node rated vMax tDerate tTrip = false ∧
        s.nodeDefined node = false := by
  unfold State.defineStatus
  split_ifs <;> simp_all

theorem State.UnitsSound.serveDefineUnit (sound : s.UnitsSound) (u node rated vMax tDerate tTrip : Nat) :
    (s.serveDefineUnit u node rated vMax tDerate tTrip).1.UnitsSound := by
  unfold State.serveDefineUnit
  dsimp only
  split
  · next passed =>
    obtain ⟨_, _, good, free⟩ := (State.defineStatus_done_iff s _ _ _ _ _ _).mp passed
    have alone := State.nodeDefined_eq_false_iff node |>.mp free
    exact (sound.putUnit u (s.definedUnit_sound good) fun _ v known _ present => alone v known present).of_unsplit
      (State.eventEvaluation_unsplitUnits _)
  · exact sound

theorem State.locked_of_restoreStatus (passed : s.restoreStatus u = .done) : (s.unit u).state = .locked := by
  unfold State.restoreStatus at passed
  split_ifs at passed
  simp_all

theorem State.UnitsSound.serveRestoreUnit (sound : s.UnitsSound) (u : Nat) : (s.serveRestoreUnit u).1.UnitsSound := by
  unfold State.serveRestoreUnit
  dsimp only
  split
  · next passed =>
    have locked := State.locked_of_restoreStatus passed
    exact (sound.rewritten (by simp [locked]) (fun fits => fits.restored locked) rfl).of_unsplit
      (State.eventEvaluation_unsplitUnits _)
  · exact sound

theorem State.UnitsSound.serveRemoveUnit (sound : s.UnitsSound) (u : Nat) : (s.serveRemoveUnit u).1.UnitsSound := by
  unfold State.serveRemoveUnit
  split_ifs
  · exact sound
  · exact (sound.putUnit u UnitRecord.empty_sound fun present => absurd rfl present).of_unsplit
      (State.eventEvaluation_unsplitUnits _)
  · exact sound

end Writers

/-! ### Every command and every step -/

theorem exec_units_sound (c : Instr) (s t : State) (sound : s.UnitsSound) (done : exec c s = .next t) :
    t.UnitsSound := by
  cases c with
  | reset =>
    cases done
    exact State.reset_unitsSound.of_unsplit rfl
  | flowGraceExpiry u => exact sound.flowGraceExpiry done
  | unitSilence u => exact sound.unitSilence done
  | unitLoss u => exact sound.unitLoss done
  | unitReport u measured temperature flowOk closed =>
    cases done
    exact sound.fieldRequest _ _ fun node _ kept => kept.serveUnitReport node u measured temperature flowOk closed
  | defineUnit u node rated vMax tDerate tTrip =>
    cases done
    exact sound.lineRequest _ fun _ kept => kept.serveDefineUnit u node rated vMax tDerate tTrip
  | removeUnit u =>
    cases done
    exact sound.lineRequest _ fun _ kept => kept.serveRemoveUnit u
  | tripUnit u =>
    cases done
    exact sound.lineRequest _ fun _ kept => kept.serveTripUnit u
  | restoreUnit u =>
    cases done
    exact sound.lineRequest _ fun _ kept => kept.serveRestoreUnit u
  | _ => exact sound.of_unsplit (exec_keeps_unsplitUnits _ s t rfl done)

/-- Settles O29: only the commands of `writesUnits` write unit records, and each writes a record that is sound. -/
theorem unitRecordsStaySound : Obligations.UnitRecordsStaySound := by
  intro s t sound done
  cases front : s.pending with
  | nil =>
    rw [step_idle s front] at done
    cases done
    rw [State.replyEnded_frame]
    exact sound.of_unsplit rfl
  | cons c rest =>
    rw [step_waiting s c rest front] at done
    exact exec_units_sound c (s.withPending rest) t (sound.of_unsplit rfl) done

end Sys2Proof.Machine
end

section
/-! PROOFS. UNIT REPORT: the record it stores, and what it raises, evaluates and answers (R86 to R92, R98, R104). -/

namespace Sys2Proof.Machine

open Sys2Proof.Claims

/-! ### The record after steps 1 to 7 of R87 -/

section Record

variable (s : State) (r : UnitRecord) (measured temperature : Nat) (flowOk closed : Bool)

theorem State.reportedUnit_state :
    (s.reportedUnit r measured temperature flowOk closed).state =
      (r.stored s.now measured temperature flowOk closed).settledState.state := by
  rw [State.reportedUnit_frame]

theorem State.reportedUnit_tripCause :
    (s.reportedUnit r measured temperature flowOk closed).tripCause =
      (r.stored s.now measured temperature flowOk closed).settledState.tripCause := by
  rw [State.reportedUnit_frame]

/-- The fields that steps 1 and 2 store stand to the end, and the definition of the unit is left (R87). -/
theorem State.reportedUnit_stored :
    let r' := s.reportedUnit r measured temperature flowOk closed
    (r'.measured = measured ∧ r'.temperature = min temperature 1500 ∧ r'.flowOk = flowOk ∧ r'.breakerClosed = closed ∧
      r'.reportStamp = s.meter.lineSeconds ∧ r'.silent = false) ∧
    r'.node = r.node ∧ r'.rated = r.rated ∧ r'.vMax = r.vMax ∧ r'.tDerate = r.tDerate ∧ r'.tTrip = r.tTrip := by
  intro r'
  have frame : r' = _ := State.reportedUnit_frame s r measured temperature flowOk closed
  rw [UnitRecord.settledState_frame] at frame
  rw [frame]
  exact ⟨⟨rfl, rfl, rfl, rfl, rfl, rfl⟩, rfl, rfl, rfl, rfl, rfl⟩

variable {s r measured temperature flowOk closed}

/-- The flow-loss stamp, the capacity and the demand of a unit that a report leaves SERVING (R89, R91, R111). -/
theorem State.reportedUnit_serving
    (serving : (s.reportedUnit r measured temperature flowOk closed).state = .serving) :
    let kept := min temperature 1500
    let full := if kept ≤ r.tDerate then r.rated else r.rated * (r.tTrip - kept) / (r.tTrip - r.tDerate)
    let r' := s.reportedUnit r measured temperature flowOk closed
    r'.flowLossStamp = (if flowOk then none else some (r.flowLossStamp.getD s.meter.lineSeconds)) ∧
      r'.capacity = (if flowOk then full else full / 2) ∧ (s.current.mode = .adopt → r'.demand = measured) ∧
      r'.derated = decide (r'.capacity < r'.rated) := by
  intro kept full r'
  rw [State.reportedUnit_state] at serving
  obtain ⟨settled, cool⟩ := UnitRecord.settledState_serving serving
  have below : kept < r.tTrip := cool
  have finished : r' = _ := UnitRecord.finished_serving serving s.now s.current.mode
  have capacity : (r.stored s.now measured temperature flowOk closed).settledState.temperatureCapacity = full := by
    rw [settled]
    exact if_congr Iff.rfl rfl (if_pos below)
  rw [capacity, settled] at finished
  rw [finished]
  exact ⟨rfl, rfl, fun adopt => if_pos adopt, rfl⟩

/-- A unit that a report does not leave SERVING has no capacity. -/
theorem State.reportedUnit_other
    (other : (s.reportedUnit r measured temperature flowOk closed).state ≠ .serving) :
    let r' := s.reportedUnit r measured temperature flowOk closed
    r'.capacity = 0 ∧ r'.derated = false ∧
      r'.demand = (r.stored s.now measured temperature flowOk closed).settledState.demand := by
  intro r'
  rw [State.reportedUnit_state] at other
  have finished : r' = _ := UnitRecord.finished_other other s.now s.current.mode
  rw [finished]
  exact ⟨rfl, rfl, rfl⟩

/-- A unit tripped by step 4 of R87. -/
theorem State.reportedUnit_hot
    (hot : (r.stored s.now measured temperature flowOk closed).movedByReport.overheated = true) :
    let r' := s.reportedUnit r measured temperature flowOk closed
    r'.state = .tripping ∧ r'.tripCause = .temperature ∧ r'.demand = 0 := by
  intro r'
  obtain ⟨tripping, cause, demand⟩ := UnitRecord.settledState_state_hot hot
  have state : r'.state = .tripping := (State.reportedUnit_state ..).trans tripping
  refine ⟨state, (State.reportedUnit_tripCause ..).trans cause, ?_⟩
  exact (State.reportedUnit_other (state.trans_ne (by simp))).2.2.trans demand

theorem State.reportedUnit_left (serving : r.state = .serving)
    (left : (s.reportedUnit r measured temperature flowOk closed).state ≠ .serving) :
    (s.reportedUnit r measured temperature flowOk closed).demand = 0 := by
  rw [(State.reportedUnit_other left).2.2]
  rw [State.reportedUnit_state] at left
  exact UnitRecord.settledState_left serving left

theorem State.reportedUnit_derated_iff :
    (s.reportedUnit r measured temperature flowOk closed).derated = true ↔
      (s.reportedUnit r measured temperature flowOk closed).state = .serving ∧
        (s.reportedUnit r measured temperature flowOk closed).capacity <
          (s.reportedUnit r measured temperature flowOk closed).rated := by
  by_cases serving : (s.reportedUnit r measured temperature flowOk closed).state = .serving
  · obtain ⟨_, _, _, derated⟩ := State.reportedUnit_serving serving
    rw [derated]
    simp [serving]
  · rw [(State.reportedUnit_other serving).2.1]
    simp [serving]

end Record

/-! ### The state after an accepted report -/

section Accepted

variable {s : State} {u measured temperature : Nat} {flowOk closed : Bool}

/-- What the written record has, and raisings and an event evaluation keep, a report has. -/
theorem State.acceptUnitReport_keeps (P : State → Prop)
    (written : P (s.putUnit u (s.reportedUnit (s.unit u) measured temperature flowOk closed)))
    (raised : ∀ t source detail, P t → P (State.raise t source detail))
    (evaluated : ∀ t, P t → P (State.eventEvaluation t)) :
    P (s.acceptUnitReport u measured temperature flowOk closed) := by
  have raisedIf : ∀ t c source detail, P t → P (State.raiseIf t c source detail) := fun t c source detail kept => by
    cases c
    exacts [kept, raised t source detail kept]
  unfold State.acceptUnitReport
  dsimp only
  split
  · exact evaluated _ (raisedIf _ _ _ _ (raisedIf _ _ _ _ written))
  · exact raisedIf _ _ _ _ (raisedIf _ _ _ _ written)

theorem State.acceptUnitReport_links : s.SameLinks (s.acceptUnitReport u measured temperature flowOk closed) :=
  State.acceptUnitReport_keeps s.SameLinks (by constructor <;> rfl)
    (fun _ _ _ kept => kept.trans (by constructor <;> rfl)) (fun _ kept => kept.trans (State.evaluate_links _ false))

theorem State.acceptUnitReport_quench : (s.acceptUnitReport u measured temperature flowOk closed).quench = s.quench :=
  State.acceptUnitReport_keeps (fun t => t.quench = s.quench) rfl (fun _ _ _ kept => kept)
    (fun t kept => (State.evaluate_tables t false).2.trans kept)

/-- In ADOPT no evaluation splits, and the units stand as written (R111). -/
theorem State.acceptUnitReport_units_adopt (adopt : s.current.mode = .adopt) :
    (s.acceptUnitReport u measured temperature flowOk closed).units =
      (s.putUnit u (s.reportedUnit (s.unit u) measured temperature flowOk closed)).units :=
  (State.acceptUnitReport_keeps
    (fun t => t.current.mode = .adopt ∧
      t.units = (s.putUnit u (s.reportedUnit (s.unit u) measured temperature flowOk closed)).units)
    ⟨adopt, rfl⟩ (fun _ _ _ kept => kept)
    fun t kept => ⟨(State.evaluate_links t false).mode.trans kept.1,
      (State.evaluate_units_adopt kept.1 false).trans kept.2⟩).2

/-- The record after an accepted report is the one of steps 1 to 7, but for the demand that a split gives a SERVING unit in
RUN and HOLD (R87, R104). -/
theorem State.acceptUnitReport_record (known : isUnit u = true) :
    ∃ demand, (s.acceptUnitReport u measured temperature flowOk closed).unit u =
        { s.reportedUnit (s.unit u) measured temperature flowOk closed with demand := demand } ∧
      (s.current.mode = .adopt ∨ (s.reportedUnit (s.unit u) measured temperature flowOk closed).state ≠ .serving →
        demand = (s.reportedUnit (s.unit u) measured temperature flowOk closed).demand) := by
  have unsplit : ((s.acceptUnitReport u measured temperature flowOk closed).unit u).unsplit =
      (s.reportedUnit (s.unit u) measured temperature flowOk closed).unsplit := by
    rw [State.unit_unsplit_congr (State.acceptUnitReport_unsplitUnits s u _ _ _ _), State.unit_putUnit_same _ _ _ known]
  refine ⟨_, UnitRecord.eq_of_unsplit unsplit, ?_⟩
  rintro (adopt | other)
  · rw [State.unit_congr (State.acceptUnitReport_units_adopt adopt), State.unit_putUnit_same _ _ _ known]
  · exact UnitRecord.demand_of_unsplit unsplit other

theorem State.acceptUnitReport_unit_other {w : Nat} (other : w ≠ u) :
    let t := s.acceptUnitReport u measured temperature flowOk closed
    t.unit w = { s.unit w with demand := (t.unit w).demand } := by
  refine UnitRecord.eq_of_unsplit ?_
  rw [State.unit_unsplit_congr (State.acceptUnitReport_unsplitUnits s u _ _ _ _), State.unit_putUnit_other _ _ _ _ other]

end Accepted

/-- Settles O26: the record is the one of steps 1 to 7, of which an evaluation sets the demand of a SERVING unit at most. -/
theorem unitReportMovesState : Obligations.UnitReportMovesState := by
  intro s u measured temperature flowOk closed low high present t r r' kept byBreaker heat full
  let x := r.stored s.now measured temperature flowOk closed
  have moved : byBreaker = x.state.byBreaker x.tripCause x.breakerClosed := by
    change _ = r.state.byBreaker r.tripCause closed
    simp only [byBreaker]
    cases r.state <;> cases closed <;> rfl
  have hot : heat ↔ x.movedByReport.overheated = true := by
    rw [UnitRecord.overheated_movedByReport, ← moved]
    rfl
  have cool (not : ¬ heat) := UnitRecord.settledState_state_cool (hot.not.mp not)
  have links : s.SameLinks t := State.acceptUnitReport_links
  obtain ⟨demand, record, unsplit⟩ : ∃ demand, r' = { s.reportedUnit r measured temperature flowOk closed with
      demand := demand } ∧ _ := State.acceptUnitReport_record ((isUnit_iff u).mpr ⟨low, high⟩)
  have stored := State.reportedUnit_stored s r measured temperature flowOk closed
  clear_value r'
  subst record
  obtain ⟨⟨measured', temperature', flow, breaker, stamp, silent⟩, node, rated, vMax, tDerate, tTrip⟩ := stored
  refine ⟨measured', temperature', flow, breaker, stamp, silent, fun heat => ?tripped, fun not => ?moves,
    fun serving => (State.reportedUnit_serving serving).1, fun serving _ => (State.reportedUnit_serving serving).2.1,
    fun other => ⟨(State.reportedUnit_other other).1, (State.reportedUnit_other other).2.1⟩, fun adopt serving => ?echoed,
    fun before left => (unsplit (.inr left)).trans (State.reportedUnit_left before left),
    State.reportedUnit_derated_iff, node, rated, vMax, tDerate, tTrip,
    fun w other => State.acceptUnitReport_unit_other other, State.acceptUnitReport_pots ..,
    State.acceptUnitReport_quench, links.switching, links.meter, links.tariff, links.field, links.port⟩
  case tripped =>
    obtain ⟨state, cause, none⟩ := State.reportedUnit_hot (hot.mp heat)
    exact ⟨state, cause, (unsplit (.inr (state.trans_ne (by simp)))).trans none⟩
  case echoed =>
    obtain ⟨_, _, echoed, _⟩ := State.reportedUnit_serving serving
    exact (unsplit (.inl adopt)).trans (echoed adopt)
  case moves =>
    obtain ⟨state, cause⟩ := cool not
    exact ⟨((State.reportedUnit_state ..).trans state).trans moved.symm, (State.reportedUnit_tripCause ..).trans cause⟩

/-! ### UNIT REPORT served (R86, R88) -/

theorem State.unitReportStatus_eq (s : State) (node u : Nat) :
    s.unitReportStatus node u =
      if u < 1 ∨ 8 < u then .noRecord
      else if (s.unit u).state = .absent then .noRecord
      else if (s.unit u).node ≠ node then .owner
      else .done := by
  unfold State.unitReportStatus
  exact if_congr ((Bool.not_eq_true' _).to_iff.trans (isUnit_eq_false_iff u)) rfl rfl

/-- A report is refused by the checks of R86 in their order with a payload of zeros, or accepted and answered (R88). -/
theorem State.serveUnitReport_eq (s : State) (node u measured temperature : Nat) (flowOk closed : Bool) :
    s.serveUnitReport node u measured temperature flowOk closed =
      let t := s.acceptUnitReport u measured temperature flowOk closed
      if u < 1 ∨ 8 < u then (s, Reply.served .noRecord [0, 0, 0, 0])
      else if (s.unit u).state = .absent then (s, Reply.served .noRecord [0, 0, 0, 0])
      else if (s.unit u).node ≠ node then (s, Reply.served .owner [0, 0, 0, 0])
      else (t, Reply.served .done
        (be 1 (t.unit u).state.code ++ be 1 (s.unitCommand (t.unit u)) ++ be 2 (t.unit u).demand)) := by
  have command : ∀ r, (s.acceptUnitReport u measured temperature flowOk closed).unitCommand r = s.unitCommand r :=
    fun r => by
      unfold State.unitCommand
      rw [State.acceptUnitReport_links.mode]
  have zeros : be 1 0 ++ be 1 0 ++ be 2 0 = [0, 0, 0, 0] := rfl
  unfold State.serveUnitReport
  simp only [zeros, command, State.unitReportStatus_eq]
  split_ifs <;> simp_all

/-- An event evaluation is called for by a report where the unit's state changed, its silence while SERVING ended, or its
capacity while SERVING changed: the unit is not silent after it (R104). -/
theorem State.callsEvaluation_reported_iff (s : State) (r : UnitRecord) (measured temperature : Nat) (flowOk closed : Bool) :
    let r' := s.reportedUnit r measured temperature flowOk closed
    r.callsEvaluation r' = true ↔
      r'.state ≠ r.state ∨ (r'.state = .serving ∧ r.silent = true) ∨ (r'.state = .serving ∧ r'.capacity ≠ r.capacity) := by
  intro r'
  obtain ⟨⟨_, _, _, _, _, silent⟩, _⟩ := State.reportedUnit_stored s r measured temperature flowOk closed
  change r'.silent = false at silent
  simp only [UnitRecord.callsEvaluation, UnitRecord.eligible, silent, Bool.or_eq_true, Bool.and_eq_true,
    UnitRecord.serving_iff, bne_iff_ne, or_assoc, ne_comm (a := r.state), ne_comm (a := r.capacity)]
  simp

/-- Settles O25: the report of a unit's own node is accepted and answered; what it raises and evaluates is read off the
record before and after. -/
theorem unitReportIsServed : Obligations.UnitReportIsServed := by
  constructor
  case left =>
    intro s turn u measured temperature flowOk closed window
    refine congrArg Host.Outcome.next ((State.fieldRequest_of_window window _ (by simp) _).trans ?_)
    rw [State.serveUnitReport_eq]
    change State.fieldReplied _ = _
    simp only [apply_ite State.fieldReplied]
    rfl
  case right =>
    intro s u measured temperature flowOk closed low high r' first raised
    have tripped : ((s.unit u).stored s.now measured temperature flowOk closed).movedByReport.overheated = true ↔
        r'.state = .tripping ∧ (s.unit u).state ≠ .tripping ∧ r'.tripCause = .temperature ∧
          ((s.unit u).state = .lost → (s.unit u).tripCause = .none) := by
      rw [State.reportedUnit_state, State.reportedUnit_tripCause]
      exact UnitRecord.overheated_iff_tripped _
    have derated : (!(s.unit u).derated && r'.derated) = true ↔ (s.unit u).derated = false ∧ r'.derated = true := by
      simp
    have calls := State.callsEvaluation_reported_iff s (s.unit u) measured temperature flowOk closed
    have one : (s.putUnit u r').raiseIf _ .unitTrip u = first := if_congr tripped rfl rfl
    have two : first.raiseIf _ .unitDerated u = raised := if_congr derated rfl rfl
    unfold State.acceptUnitReport
    dsimp only
    rw [one, two]
    exact if_congr calls rfl rfl

end Sys2Proof.Machine
end

section
/-! PROOFS. I_meas, V_cap and I_cap over the eight unit records (R101 to R103). -/

namespace Sys2Proof.Machine

/-- A sum of shares that are 0 but for some records is the sum over those records. -/
theorem sum_map_share (l : List UnitRecord) (c : UnitRecord → Prop) [DecidablePred c] (f : UnitRecord → Nat) :
    (l.map fun r => if c r then f r else 0).sum = ((l.filter fun r => c r).map f).sum := by
  simp [List.sum_map_ite]

theorem UnitRecord.capacityShare_eq (r : UnitRecord) :
    r.capacityShare = if r.state = .serving ∧ r.silent = false then r.capacity else 0 := by
  simp [UnitRecord.capacityShare, UnitRecord.eligible, UnitRecord.serving]

theorem UnitRecord.frozenShare_eq (r : UnitRecord) :
    r.frozenShare = if r.state = .serving ∧ r.silent = true then r.demand else 0 := by
  simp [UnitRecord.frozenShare, UnitRecord.heldFrozen, UnitRecord.serving]

/-- The V_max values over which V_cap is the least (R102). -/
def State.servingVoltages (s : State) : List Nat :=
  (s.units.toList.filter UnitRecord.serving).map UnitRecord.vMax

theorem State.mem_servingVoltages {s : State} {v : Nat} :
    v ∈ s.servingVoltages ↔ ∃ r ∈ s.units.toList, r.state = .serving ∧ r.vMax = v := by
  simp [State.servingVoltages, UnitRecord.serving, and_assoc]

/-- V_cap is the V_max of a SERVING unit, where there is one (R102). -/
theorem State.vCap_mem {s : State} (serves : ∃ r ∈ s.units.toList, r.state = .serving) :
    s.vCap ∈ s.servingVoltages := by
  obtain ⟨r, member, serving⟩ := serves
  have voltage : r.vMax ∈ s.servingVoltages := State.mem_servingVoltages.mpr ⟨r, member, serving, rfl⟩
  change s.servingVoltages.min?.getD 0 ∈ _
  cases least : s.servingVoltages.min? with
  | none => simp [List.min?_eq_none_iff.mp least] at voltage
  | some v => exact List.min?_mem least

/-- Settles O28: the shares that the model adds up and the voltages it takes the least of, read over the eight records. -/
theorem lineQuantitiesOfUnits : Obligations.LineQuantitiesOfUnits := by
  intro s
  rw [← State.units_toList]
  intro units
  have capacity : s.capacitySum =
      ((units.filter fun r => r.state = .serving ∧ r.silent = false).map UnitRecord.capacity).sum := by
    rw [← sum_map_share]
    exact congrArg (fun share => (units.map share).sum) (funext UnitRecord.capacityShare_eq)
  have frozen : s.frozenSum =
      ((units.filter fun r => r.state = .serving ∧ r.silent = true).map UnitRecord.demand).sum := by
    rw [← sum_map_share]
    exact congrArg (fun share => (units.map share).sum) (funext UnitRecord.frozenShare_eq)
  refine ⟨congrArg (min topCurrent) (sum_map_share ..), fun none => ?none, fun r member serving => ?least,
    fun serves => ?some, ?capacity⟩
  case none =>
    have empty : s.servingVoltages = [] := List.eq_nil_iff_forall_not_mem.mpr fun v voltage => by
      obtain ⟨r, member, serving, _⟩ := State.mem_servingVoltages.mp voltage
      exact none r member serving
    change s.servingVoltages.min?.getD 0 = 0
    rw [empty]
    rfl
  case least => exact List.min?_getD_le_of_mem (State.mem_servingVoltages.mpr ⟨r, member, serving, rfl⟩)
  case some =>
    obtain ⟨r, member, serving, vMax⟩ := State.mem_servingVoltages.mp (State.vCap_mem serves)
    exact ⟨r, member, serving, vMax.symm⟩
  case capacity =>
    rw [← capacity, ← frozen]
    rfl

end Sys2Proof.Machine
end

section
/-! PROOFS. DEFINE, TRIP, RESTORE and REMOVE UNIT, and the examinations of a unit record (R84, R91 to R93, R95 to R97, R99). -/

namespace Sys2Proof.Machine

open Sys2Proof.Claims

/-! ### The requests of the line master -/

theorem defineValuesBad_iff (node rated vMax tDerate tTrip : Nat) :
    defineValuesBad node rated vMax tDerate tTrip = true ↔
      (node < 1 ∨ 62 < node) ∨ rated = 0 ∨ (vMax < 100000 ∨ 4000000 < vMax) ∨ 1500 < tTrip ∨ tTrip ≤ tDerate := by
  simp [defineValuesBad, isNode_eq_false_iff, or_assoc]

theorem State.defineStatus_eq (s : State) (u node rated vMax tDerate tTrip : Nat) :
    s.defineStatus u node rated vMax tDerate tTrip =
      if u < 1 ∨ 8 < u then .param
      else if (s.unit u).state ≠ .absent then .state
      else if (node < 1 ∨ 62 < node) ∨ rated = 0 ∨ (vMax < 100000 ∨ 4000000 < vMax) ∨ 1500 < tTrip ∨ tTrip ≤ tDerate then
        .param
      else if s.nodeDefined node = true then .busy
      else .done := by
  unfold State.defineStatus
  simp only [Bool.not_eq_true', isUnit_eq_false_iff, defineValuesBad_iff]

theorem State.restoreStatus_eq (s : State) (u : Nat) :
    s.restoreStatus u =
      if u < 1 ∨ 8 < u then .param
      else if (s.unit u).state ≠ .locked then .state
      else if (s.unit u).tDerate ≤ (s.unit u).temperature ∨ (s.unit u).flowOk = false then .state
      else .done := by
  unfold State.restoreStatus
  simp only [Bool.not_eq_true', isUnit_eq_false_iff]

section Requests

variable {s : State} (takes : s.port.takes = true)

include takes

theorem State.defineUnit_answered (u node rated vMax tDerate tTrip : Nat) :
    s.lineRequest (fun t => t.serveDefineUnit u node rated vMax tDerate tTrip) =
      s.abandonLoad.answeredBy
        (answered (s.abandonLoad.putUnit u (s.definedUnit node rated vMax tDerate tTrip)).eventEvaluation .done [])
        (s.defineStatus u node rated vMax tDerate tTrip) := by
  have status : s.abandonLoad.defineStatus u node rated vMax tDerate tTrip =
      s.defineStatus u node rated vMax tDerate tTrip := rfl
  rw [State.lineRequest_replied takes]
  simp only [State.serveDefineUnit, status, State.answeredBy]
  split <;> rfl

theorem State.restoreUnit_answered (u : Nat) :
    s.lineRequest (fun t => t.serveRestoreUnit u) =
      s.abandonLoad.answeredBy
        (answered (s.abandonLoad.putUnit u { s.unit u with state := .idle, tripCause := .none }).eventEvaluation .done [])
        (s.restoreStatus u) := by
  have status : s.abandonLoad.restoreStatus u = s.restoreStatus u := rfl
  rw [State.lineRequest_replied takes]
  simp only [State.serveRestoreUnit, status, State.answeredBy]
  split <;> rfl

theorem exec_tripUnit (u : Nat) :
    exec (.tripUnit u) s = .next (
      let v := s.abandonLoad
      if u < 1 ∨ 8 < u then answered v .param []
      else if (s.unit u).state ≠ .serving then answered v .state []
      else answered (v.tripUnit u .lineMaster) .done []) := by
  have unit : s.abandonLoad.unit u = s.unit u := rfl
  refine congrArg Host.Outcome.next ((State.lineRequest_replied takes _).trans ?_)
  simp only [State.serveTripUnit, Bool.not_eq_true', isUnit_eq_false_iff, UnitRecord.serving_iff, unit,
    apply_ite State.replied, ite_not]
  rfl

theorem exec_removeUnit (u : Nat) :
    exec (.removeUnit u) s = .next (
      let v := s.abandonLoad
      if u < 1 ∨ 8 < u then answered v .param []
      else if (s.unit u).state = .idle ∨ (s.unit u).state = .locked ∨ (s.unit u).state = .lost then
        answered (v.putUnit u UnitRecord.empty).eventEvaluation .done []
      else answered v .state []) := by
  have unit : s.abandonLoad.unit u = s.unit u := rfl
  refine congrArg Host.Outcome.next ((State.lineRequest_replied takes _).trans ?_)
  simp only [State.serveRemoveUnit, Bool.not_eq_true', isUnit_eq_false_iff, UnitRecord.removable_iff, unit,
    apply_ite State.replied]
  rfl

end Requests

/-- Settles O24: each request is answered with the status of its checks, in the order of R84, R93, R95 and R99. -/
theorem unitRequestsFollowState : Obligations.UnitRequestsFollowState := by
  refine ⟨fun s u node rated vMax tDerate tTrip takes => ?define, fun s u takes => exec_tripUnit takes u,
    fun s u takes => ⟨?restore, exec_removeUnit takes u⟩⟩
  case define =>
    refine congrArg Host.Outcome.next ((State.defineUnit_answered takes ..).trans ?_)
    rw [State.defineStatus_eq, State.nodeDefined_eq]
    simp only [apply_ite (State.answeredBy _ _)]
    rfl
  case restore =>
    refine congrArg Host.Outcome.next ((State.restoreUnit_answered takes u).trans ?_)
    rw [State.restoreStatus_eq]
    simp only [apply_ite (State.answeredBy _ _)]
    rfl

/-! ### The examinations of a unit record -/

theorem State.flowGraceDue_iff {s : State} {u stamp : Nat} (stamped : (s.unit u).flowLossStamp = some stamp) :
    s.flowGraceDue u = true ↔
      (s.unit u).state = .serving ∧ s.meter.atAdvance.tFlowGrace ≤ age s.meter.lineSeconds stamp := by
  simp only [State.flowGraceDue, stamped, Bool.and_eq_true, UnitRecord.serving_iff, decide_eq_true_eq]
  rfl

theorem State.flowGraceDue_unstamped {s : State} {u : Nat} (unstamped : (s.unit u).flowLossStamp = none) :
    s.flowGraceDue u = false := by
  simp [State.flowGraceDue, unstamped]

theorem State.unitSilenceDue_iff (s : State) (u : Nat) :
    s.unitSilenceDue u = true ↔
      ((s.unit u).state = .serving ∨ (s.unit u).state = .tripping) ∧ (s.unit u).silent = false ∧
        s.meter.atAdvance.tUnitSilent < age s.meter.lineSeconds (s.unit u).reportStamp := by
  simp only [State.unitSilenceDue, Bool.and_eq_true, UnitRecord.onLine_iff, Bool.not_eq_true', decide_eq_true_eq, and_assoc]
  rfl

theorem State.unitLossDue_iff (s : State) (u : Nat) :
    s.unitLossDue u = true ↔
      ((s.unit u).state = .serving ∨ (s.unit u).state = .tripping) ∧
        s.meter.atAdvance.tUnitLost < age s.meter.lineSeconds (s.unit u).reportStamp := by
  simp only [State.unitLossDue, Bool.and_eq_true, UnitRecord.onLine_iff, decide_eq_true_eq]
  rfl

/-- Silence freezes the demand of a SERVING unit, and calls for an evaluation there alone (R96, R104). -/
theorem State.silenceUnit_eq (s : State) (u : Nat) :
    s.silenceUnit u =
      if (s.unit u).state = .serving then
        (s.putUnit u { s.unit u with silent := true, frozen := true }).eventEvaluation
      else s.putUnit u { s.unit u with silent := true } := by
  simp only [State.silenceUnit, UnitRecord.serving_iff]
  split
  · next serving => rw [(UnitRecord.serving_iff _).mpr serving, Bool.true_or]
  · next other => rw [(UnitRecord.serving_eq_false_iff _).mpr other, Bool.false_or]

/-- Settles O27: each examination acts exactly where its limit has run out. -/
theorem unitTimersExamineRecord : Obligations.UnitTimersExamineRecord := by
  intro s u r
  refine ⟨congrArg Host.Outcome.next ?grace, congrArg Host.Outcome.next ?silence, congrArg Host.Outcome.next ?loss⟩
  case grace =>
    cases stamped : r.flowLossStamp with
    | none => exact if_neg (by simp [State.flowGraceDue_unstamped stamped])
    | some stamp => exact if_congr (State.flowGraceDue_iff stamped) rfl rfl
  case silence => exact if_congr (s.unitSilenceDue_iff u) (s.silenceUnit_eq u) rfl
  case loss => exact if_congr (s.unitLossDue_iff u) rfl rfl

end Sys2Proof.Machine
end

section
/-! PROOFS. The split of the setpoint into unit demands (R125 to R127), and the bounds of the setpoint that every evaluation
sets (R120 to R124). -/

namespace Sys2Proof.Machine

/-! ### Shares and counts over a list of units -/

/-- The units that a shortfall reaches in the order of a list take one count each until it is given out (R126). -/
theorem sum_counts_eq_min {α : Type} (takes : α → Bool) (n : Nat) (l : List α) (before : Nat) :
    (l.mapIdx fun i a => if takes a ∧ before + (l.take i).countP takes < n then 1 else 0).sum =
      min (n - before) (l.countP takes) := by
  induction l generalizing before with
  | nil => simp
  | cons a l ih =>
    rw [List.mapIdx_cons, List.sum_cons, List.countP_cons]
    simp only [List.take_succ_cons, List.countP_cons, List.take_zero, List.countP_nil, Nat.add_zero]
    cases taken : takes a with
    | false => simpa using ih before
    | true =>
      have rest := ih (before + 1)
      simp only [if_true, true_and, ← Nat.add_assoc, Nat.add_right_comm before _ 1] at rest ⊢
      rw [rest]
      split <;> omega

theorem sum_mapIdx_add {α : Type} (l : List α) (f : α → Nat) (g : Nat → α → Nat) :
    (l.mapIdx fun i a => f a + g i a).sum = (l.map f).sum + (l.mapIdx g).sum := by
  induction l generalizing g with
  | nil => rfl
  | cons a l ih =>
    have rest := ih fun i => g (i + 1)
    simp only [List.mapIdx_cons, List.map_cons, List.sum_cons]
    omega

section Shares

variable {remainder c : Nat} {u : UnitRecord}

theorem UnitRecord.splitShare_eq (positive : 0 < c) :
    u.splitShare remainder c = remainder * u.capacityShare / c := by
  unfold UnitRecord.splitShare UnitRecord.capacityShare
  rw [if_neg positive.ne']
  split <;> simp

theorem UnitRecord.takesCount_iff : u.takesCount = true ↔ 0 < u.capacityShare := by
  unfold UnitRecord.takesCount UnitRecord.capacityShare
  split <;> simp_all

/-- The truncated shares of a list of units come to no more than the remainder, and to less by at most one count for each
unit with a capacity (R125). -/
theorem splitShares_bounds (positive : 0 < c) (l : List UnitRecord) :
    (l.map fun u => u.splitShare remainder c).sum * c ≤ remainder * (l.map UnitRecord.capacityShare).sum ∧
      remainder * (l.map UnitRecord.capacityShare).sum ≤
        ((l.map fun u => u.splitShare remainder c).sum + l.countP UnitRecord.takesCount) * c := by
  induction l with
  | nil => simp
  | cons u l ih =>
    obtain ⟨low, high⟩ := ih
    have share := UnitRecord.splitShare_eq (u := u) (remainder := remainder) positive
    have below := Nat.div_mul_le_self (remainder * u.capacityShare) c
    have above := Nat.lt_div_mul_add positive (a := remainder * u.capacityShare)
    rw [← share] at below above
    simp only [List.map_cons, List.sum_cons, List.countP_cons, Nat.add_mul, Nat.mul_add]
    refine ⟨Nat.add_le_add below low, ?_⟩
    by_cases takes : u.takesCount = true
    · rw [if_pos takes, Nat.one_mul]
      rw [Nat.add_mul] at high
      omega
    · have none : u.capacityShare = 0 := by simpa [UnitRecord.takesCount_iff] using takes
      rw [if_neg takes, none, Nat.mul_zero, Nat.zero_mul]
      rw [Nat.add_mul] at high
      omega

end Shares

/-! ### The demands of a split (R125, R126) -/

section Split

variable {s : State}

/-- The count that the shortfall gives the unit at an index of the table (R126). -/
def State.splitCount (s : State) (index : Nat) (u : UnitRecord) : Nat :=
  if u.takesCount ∧ (s.units.toList.take index).countP UnitRecord.takesCount < s.splitShortfall then 1 else 0

theorem State.splitDemand_eligible {u : UnitRecord} (eligible : u.eligible = true) (index : Nat) :
    s.splitDemand index u = u.splitShare s.splitRemainder s.capacitySum + s.splitCount index u := by
  unfold State.splitDemand
  rw [if_pos eligible]
  rfl

theorem State.splitDemand_other {u : UnitRecord} (other : u.eligible = false) (index : Nat) :
    s.splitDemand index u = u.demand := by
  unfold State.splitDemand
  rw [if_neg (by simp [other])]

/-- What the shares come to and what they leave short, where the remainder is within the capacities (R125). -/
theorem State.splitShares_sum (within : s.splitRemainder ≤ s.capacitySum) :
    (s.units.toList.map fun u => u.splitShare s.splitRemainder s.capacitySum).sum + s.splitShortfall =
        s.splitRemainder ∧
      s.splitShortfall ≤ s.units.toList.countP UnitRecord.takesCount := by
  have shortfall : s.splitShortfall = s.splitRemainder -
    (s.units.toList.map fun u => u.splitShare s.splitRemainder s.capacitySum).sum := rfl
  rcases Nat.eq_zero_or_pos s.capacitySum with zero | positive
  · have none : ∀ u : UnitRecord, u.splitShare s.splitRemainder s.capacitySum = 0 := by simp [UnitRecord.splitShare, zero]
    simp only [none] at shortfall ⊢
    simp only [List.map_const', List.sum_replicate, smul_eq_mul, Nat.mul_zero] at shortfall ⊢
    omega
  · obtain ⟨low, high⟩ := splitShares_bounds (remainder := s.splitRemainder) positive s.units.toList
    have shares := Nat.le_of_mul_le_mul_right low positive
    have counts := Nat.le_of_mul_le_mul_right high positive
    omega

/-- The counts given out come to the shortfall (R126). -/
theorem State.splitCounts_sum (within : s.splitRemainder ≤ s.capacitySum) :
    (s.units.toList.mapIdx s.splitCount).sum = s.splitShortfall := by
  have enough := (State.splitShares_sum within).2
  have counts := sum_counts_eq_min UnitRecord.takesCount s.splitShortfall s.units.toList 0
  simp only [Nat.zero_add, Nat.sub_zero] at counts
  exact counts.trans (min_eq_left enough)

/-- A SERVING unit's demand after a split: the frozen demand where it is silent, and its share with its count where it is
eligible; no other unit has either. -/
theorem State.servingDemand_split (index : Nat) (u : UnitRecord) :
    (if u.serving then s.splitDemand index u else 0) =
      (u.frozenShare + u.splitShare s.splitRemainder s.capacitySum) + s.splitCount index u := by
  cases serving : u.serving with
  | false =>
    simp [State.splitCount, UnitRecord.frozenShare, UnitRecord.heldFrozen, UnitRecord.splitShare, UnitRecord.takesCount,
      UnitRecord.eligible, serving]
  | true =>
    cases silent : u.silent with
    | false =>
      have eligible : u.eligible = true := by simp [UnitRecord.eligible, serving, silent]
      simp [State.splitDemand_eligible eligible, UnitRecord.frozenShare, UnitRecord.heldFrozen, silent]
    | true =>
      have other : u.eligible = false := by simp [UnitRecord.eligible, silent]
      simp [State.splitDemand_other other, State.splitCount, UnitRecord.frozenShare, UnitRecord.heldFrozen,
        UnitRecord.splitShare, UnitRecord.takesCount, other, serving, silent]

/-- The demands of the SERVING units add up to the setpoint after a split of it (R126). -/
theorem State.split_servingDemands (floor : s.frozenSum ≤ s.current.setpoint)
    (within : s.splitRemainder ≤ s.capacitySum) : s.split.servingDemands = s.current.setpoint := by
  have shares := (State.splitShares_sum within).1
  have remainder : s.splitRemainder = s.current.setpoint - s.frozenSum := rfl
  calc s.split.servingDemands
      = (s.units.toList.mapIdx fun i u => if u.serving then s.splitDemand i u else 0).sum := by
        rw [State.servingDemands, State.split_units, Vector.toList_mapIdx]
        exact congrArg List.sum (List.ext_getElem (by simp) fun i _ _ => by simp [UnitRecord.serving])
    _ = (s.units.toList.map fun u => u.frozenShare + u.splitShare s.splitRemainder s.capacitySum).sum +
          (s.units.toList.mapIdx s.splitCount).sum := by
        simp only [State.servingDemand_split]
        exact sum_mapIdx_add ..
    _ = s.frozenSum + (s.units.toList.map fun u => u.splitShare s.splitRemainder s.capacitySum).sum +
          s.splitShortfall := by
        rw [State.splitCounts_sum within, List.sum_map_add]
        rfl
    _ = s.current.setpoint := by omega

theorem State.capacity_le_sum {u : UnitRecord} (member : u ∈ s.units.toList) (eligible : u.eligible = true) :
    u.capacity ≤ s.capacitySum := by
  have share : u.capacityShare = u.capacity := if_pos eligible
  rw [← share]
  exact List.le_sum_of_mem (List.mem_map_of_mem member)

/-- No eligible unit's demand exceeds its capacity after a split (R126): a count is added to a truncated share alone. -/
theorem State.splitDemand_le {u : UnitRecord} (within : s.splitRemainder ≤ s.capacitySum) (eligible : u.eligible = true)
    (member : u ∈ s.units.toList) (index : Nat) : s.splitDemand index u ≤ u.capacity := by
  rw [State.splitDemand_eligible eligible]
  have below := State.capacity_le_sum member eligible
  have share : u.capacityShare = u.capacity := if_pos eligible
  rcases Nat.eq_zero_or_pos u.capacity with zero | capacity
  · simp [UnitRecord.splitShare, State.splitCount, UnitRecord.takesCount, zero]
  have positive : 0 < s.capacitySum := by omega
  rw [UnitRecord.splitShare_eq positive, share]
  rcases within.lt_or_eq with less | full
  · have truncated : s.splitRemainder * u.capacity / s.capacitySum < u.capacity :=
      Nat.div_lt_of_lt_mul (Nat.mul_lt_mul_of_pos_right less capacity)
    have count : s.splitCount index u ≤ 1 := by unfold State.splitCount; split <;> omega
    omega
  · have shortfall : s.splitShortfall = 0 := by
      have whole : ∀ v : UnitRecord, v.splitShare s.splitRemainder s.capacitySum = v.capacityShare := fun v => by
        rw [UnitRecord.splitShare_eq positive, full, Nat.mul_div_cancel_left _ positive]
      unfold State.splitShortfall
      simp only [whole]
      exact Nat.sub_eq_zero_of_le within
    have none : s.splitCount index u = 0 := by simp [State.splitCount, shortfall]
    rw [none, full, Nat.mul_div_cancel_left _ positive]
    exact le_rfl

end Split

/-! ### The setpoint after an evaluation (R120 to R124) -/

section Evaluation

variable {s : State}

theorem State.limitsNow_iLim_le (s : State) : s.limitsNow.iLim ≤ s.iCap ∧ s.limitsNow.iLim ≤ s.iSw := by
  simp only [State.limitsNow]
  omega

theorem State.candidate_le (s : State) (cycle : Bool) (iLim : Nat) : s.candidate cycle iLim ≤ iLim := by
  unfold State.candidate
  dsimp only
  split_ifs <;> omega

/-- In RUN and HOLD an evaluation sets the setpoint between F and I_cap, or to F where that is more; in RUN it keeps it
within the switching limit (R122 to R124). -/
theorem State.evaluate_setpoint (splits : s.current.mode ≠ .adopt) (cycle : Bool) :
    s.frozenSum ≤ (s.evaluate cycle).current.setpoint ∧
      (s.evaluate cycle).current.setpoint ≤ max s.iCap s.frozenSum ∧
      (s.current.mode = .run → (s.evaluate cycle).current.setpoint ≤ max s.iSw s.frozenSum) := by
  obtain ⟨capacity, ceiling⟩ := s.limitsNow_iLim_le
  have candidate := s.candidate_le cycle s.limitsNow.iLim
  rw [State.evaluate_current]
  unfold State.moved
  cases mode : s.current.mode with
  | adopt => exact absurd mode splits
  | run => simp only; omega
  | hold =>
    have stored : s.limitsNow.iCap = s.iCap := rfl
    simp only [stored, reduceCtorEq, false_implies, and_true]
    omega

theorem State.iCap_le (s : State) : s.iCap ≤ s.capacitySum + s.frozenSum := min_le_right _ _

/-- F is within I_cap where it is in the range of a current (R103). -/
theorem State.frozenSum_le_iCap (inRange : s.frozenSum ≤ topCurrent) : s.frozenSum ≤ s.iCap :=
  le_min inRange (Nat.le_add_left _ _)

/-- What the split of an evaluation reads: the units of the state before it, and the setpoint it has set. -/
theorem State.evaluate_units_split (splits : s.current.mode ≠ .adopt) (cycle : Bool) :
    let v := s.withSetpoint (s.evaluate cycle).current.setpoint
    (s.evaluate cycle).units = v.split.units ∧ v.frozenSum ≤ v.current.setpoint ∧ v.splitRemainder ≤ v.capacitySum := by
  intro v
  obtain ⟨floor, capacity, -⟩ := State.evaluate_setpoint splits cycle
  have most := s.iCap_le
  refine ⟨(State.evaluate_units s cycle).trans (if_neg splits), floor, ?_⟩
  change (s.evaluate cycle).current.setpoint - s.frozenSum ≤ s.capacitySum
  omega

/-- Every evaluation leaves the setpoint and the demands within their bounds, from whatever state it starts. -/
theorem State.evaluate_dispatchSound (s : State) (cycle : Bool) : (s.evaluate cycle).DispatchSound := by
  have links := State.evaluate_links s cycle
  have unsplit := State.evaluate_unsplitUnits s cycle
  have frozen := State.frozenSum_of_unsplit unsplit
  have cap := State.iCap_of_unsplit unsplit
  by_cases adopt : s.current.mode = .adopt
  · constructor <;> simp [links.mode, adopt]
  obtain ⟨floor, capacity, ceiling⟩ := State.evaluate_setpoint adopt cycle
  obtain ⟨units, covered, within⟩ := State.evaluate_units_split adopt cycle
  constructor
  case atLeastFrozen => rwa [frozen, links.mode, imp_iff_right adopt]
  case withinCapacity =>
    intro _ inRange
    rw [frozen] at inRange
    have least := State.frozenSum_le_iCap inRange
    rw [cap]
    omega
  case demandsAddUp =>
    intro _
    have demands := State.split_servingDemands covered within
    rw [State.servingDemands, ← units] at demands
    exact demands
  case demandWithin =>
    intro _ u member eligible
    rw [units, State.split_units, Vector.toList_mapIdx, List.mem_mapIdx] at member
    obtain ⟨i, inside, rfl⟩ := member
    exact State.splitDemand_le (u := s.units.toList[i]) within eligible (List.getElem_mem inside) i
  case ceiling =>
    intro run entries
    rw [links.mode] at run
    rw [links.switching] at entries
    have least : s.iSw = s.params.iCeiling := if_neg entries
    rw [frozen, State.params, links.params]
    exact least ▸ ceiling run

end Evaluation

end Sys2Proof.Machine
end

section
/-! PROOFS. The split of an evaluation over the eight unit numbers (R125 to R127). -/

namespace Sys2Proof.Machine

section Numbers

variable {s : State} {u : Nat}

theorem State.split_unit (low : 1 ≤ u) (high : u ≤ 8) :
    s.split.unit u = { s.unit u with demand := s.splitDemand (u - 1) (s.unit u) } := by
  obtain ⟨i, rfl⟩ : ∃ i, u = i + 1 := ⟨u - 1, by omega⟩
  have inside : i < 8 := by omega
  simp [State.unit, tget, inside]

theorem State.unit_mem (low : 1 ≤ u) (high : u ≤ 8) : s.unit u ∈ s.units.toList :=
  tget_mem UnitRecord.empty s.units u low high

/-- The units ahead of a unit in the table that take a count, by their numbers (R126). -/
theorem State.countBefore_eq (takes : UnitRecord → Bool) (low : 1 ≤ u) (high : u ≤ 8) :
    (s.units.toList.take (u - 1)).countP takes =
      ([1, 2, 3, 4, 5, 6, 7, 8].filter fun w => takes (s.unit w) && decide (w < u)).length := by
  have ahead : [1, 2, 3, 4, 5, 6, 7, 8].take (u - 1) = [1, 2, 3, 4, 5, 6, 7, 8].filter fun w => decide (w < u) := by
    interval_cases u <;> rfl
  rw [State.units_toList, ← List.map_take, List.countP_map, List.countP_eq_length_filter, ahead, List.filter_filter]
  rfl

theorem UnitRecord.splitShare_of_not_takes {r : UnitRecord} (none : ¬ r.takesCount = true) (remainder c : Nat) :
    r.splitShare remainder c = 0 := by
  unfold UnitRecord.takesCount at none
  unfold UnitRecord.splitShare
  split_ifs <;> simp_all

/-- The share of a unit that takes a count is written out without the case of no capacity at all (R125). -/
theorem State.splitShare_of_takes (low : 1 ≤ u) (high : u ≤ 8) (takes : (s.unit u).takesCount = true) (remainder : Nat) :
    (s.unit u).splitShare remainder s.capacitySum = remainder * (s.unit u).capacity / s.capacitySum := by
  have positive := UnitRecord.takesCount_iff.mp takes
  have eligible : (s.unit u).eligible = true := by
    unfold UnitRecord.takesCount at takes
    simp_all
  have capacity : (s.unit u).capacityShare = (s.unit u).capacity := if_pos eligible
  have below := State.capacity_le_sum (State.unit_mem low high) eligible
  rw [UnitRecord.splitShare_eq (by omega), capacity]

/-- The shortfall in the words of the statements (R125). -/
theorem State.splitShortfall_eq (s : State) :
    s.splitShortfall = s.splitRemainder -
      (([1, 2, 3, 4, 5, 6, 7, 8].filter fun u => (s.unit u).takesCount).map fun u =>
        s.splitRemainder * (s.unit u).capacity / s.capacitySum).sum := by
  have numbers : ∀ u ∈ [1, 2, 3, 4, 5, 6, 7, 8], (s.unit u).splitShare s.splitRemainder s.capacitySum =
      if (s.unit u).takesCount then s.splitRemainder * (s.unit u).capacity / s.capacitySum else 0 := by
    intro u number
    simp only [List.mem_cons, List.not_mem_nil, or_false] at number
    split
    · next takes => exact State.splitShare_of_takes (by omega) (by omega) takes _
    · next none => exact UnitRecord.splitShare_of_not_takes none _ _
  have whole : (s.units.toList.map fun u => u.splitShare s.splitRemainder s.capacitySum) =
      [1, 2, 3, 4, 5, 6, 7, 8].map fun u =>
        if (s.unit u).takesCount then s.splitRemainder * (s.unit u).capacity / s.capacitySum else 0 := by
    rw [State.units_toList, List.map_map]
    exact List.map_congr_left numbers
  unfold State.splitShortfall
  rw [whole, List.sum_map_ite]
  simp

/-- The demand of an eligible unit after a split, by the unit numbers (R125, R126). -/
theorem State.splitDemand_eq (low : 1 ≤ u) (high : u ≤ 8) (eligible : (s.unit u).eligible = true) :
    s.splitDemand (u - 1) (s.unit u) =
      if (s.unit u).takesCount then
        s.splitRemainder * (s.unit u).capacity / s.capacitySum +
          (if ([1, 2, 3, 4, 5, 6, 7, 8].filter fun w => (s.unit w).takesCount && decide (w < u)).length < s.splitShortfall
          then 1 else 0)
      else 0 := by
  rw [State.splitDemand_eligible eligible, State.splitCount, State.countBefore_eq _ low high]
  by_cases takes : (s.unit u).takesCount = true
  · simp only [State.splitShare_of_takes low high takes, takes, true_and, if_true]
  · simp [UnitRecord.splitShare_of_not_takes takes, takes]

end Numbers

/-- Settles O32: the evaluation splits the setpoint it has set, which lies between F and I_cap. -/
theorem splitAddsUpToSetpoint : Obligations.SplitAddsUpToSetpoint := by
  intro s cycle splits t remainder takes share shortfall
  have sound : t.DispatchSound := State.evaluate_dispatchSound s cycle
  have mode : t.current.mode ≠ .adopt := (State.evaluate_links s cycle).mode ▸ splits
  have frozen : t.frozenSum = s.frozenSum := State.frozenSum_of_unsplit (State.evaluate_unsplitUnits s cycle)
  have cap : t.iCap = s.iCap := State.iCap_of_unsplit (State.evaluate_unsplitUnits s cycle)
  obtain ⟨units, -, within⟩ := State.evaluate_units_split splits cycle
  let v := s.withSetpoint t.current.setpoint
  have short : v.splitShortfall = shortfall := v.splitShortfall_eq
  refine ⟨sound.demandsAddUp mode, frozen, cap, frozen ▸ sound.atLeastFrozen mode, fun inRange => ?_,
    fun u low high => ?_⟩
  · rw [← frozen] at inRange
    exact cap ▸ sound.withinCapacity mode inRange
  have record : t.unit u = { s.unit u with demand := v.splitDemand (u - 1) (s.unit u) } :=
    (State.unit_congr units u).trans (State.split_unit (s := v) low high)
  rw [record]
  refine ⟨fun eligible => ⟨?_, ?_⟩, fun other => ?_, rfl⟩
  · exact State.splitDemand_le within eligible (State.unit_mem (s := v) low high) (u - 1)
  · rw [← short]
    exact State.splitDemand_eq (s := v) low high eligible
  · rw [State.splitDemand_other other]

end Sys2Proof.Machine
end

section
/-! PROOFS. Every step keeps the bounds of the setpoint and the sum of the demands (R124, R126): an evaluation sets them
afresh, and what changes without one is nothing that they read, or the end of the switch queue. -/

namespace Sys2Proof.Machine

/-! ### The parts that the bounds read -/

/-- What the bounds read of a SERVING unit. -/
structure UnitClaim where
  silent : Bool
  capacity : Nat
  demand : Nat

def UnitRecord.claim (r : UnitRecord) : Option UnitClaim :=
  if r.serving then some ⟨r.silent, r.capacity, r.demand⟩ else none

def UnitClaim.frozen (c : UnitClaim) : Nat := if c.silent then c.demand else 0

def UnitClaim.offered (c : UnitClaim) : Nat := if c.silent then 0 else c.capacity

/-- What the bounds read of the block beside the switch queue. -/
structure DispatchView where
  claims : Vector (Option UnitClaim) 8
  mode : LineMode
  setpoint : Nat
  iCeiling : Nat

def State.dispatchView (s : State) : DispatchView :=
  ⟨s.units.map UnitRecord.claim, s.current.mode, s.current.setpoint, s.params.iCeiling⟩

section Claims

variable (r : UnitRecord)

theorem UnitRecord.frozenShare_claim : r.frozenShare = r.claim.elim 0 UnitClaim.frozen := by
  cases serving : r.serving <;>
    simp [UnitRecord.frozenShare, UnitRecord.heldFrozen, UnitRecord.claim, UnitClaim.frozen, serving]

theorem UnitRecord.capacityShare_claim : r.capacityShare = r.claim.elim 0 UnitClaim.offered := by
  cases serving : r.serving with
  | false => simp [UnitRecord.capacityShare, UnitRecord.eligible, UnitRecord.claim, serving]
  | true =>
    cases silent : r.silent <;>
      simp [UnitRecord.capacityShare, UnitRecord.eligible, UnitRecord.claim, UnitClaim.offered, serving, silent]

theorem UnitRecord.servingDemand_claim : (if r.serving then r.demand else 0) = r.claim.elim 0 UnitClaim.demand := by
  cases serving : r.serving <;> simp [UnitRecord.claim, serving]

theorem UnitRecord.claim_eligible_iff (c : UnitClaim) :
    r.claim = some c ∧ c.silent = false ↔ r.eligible = true ∧ c = ⟨false, r.capacity, r.demand⟩ := by
  cases serving : r.serving with
  | false => simp [UnitRecord.claim, UnitRecord.eligible, serving]
  | true =>
    cases silent : r.silent with
    | false =>
      simp only [UnitRecord.claim, UnitRecord.eligible, serving, silent, if_true, Option.some.injEq, Bool.not_false,
        Bool.and_self, true_and, eq_comm (a := c), and_iff_left_iff_imp]
      rintro rfl
      rfl
    | true =>
      simp only [UnitRecord.claim, UnitRecord.eligible, serving, silent, if_true, Option.some.injEq, Bool.not_true,
        Bool.and_false, Bool.false_eq_true, false_and, iff_false, not_and]
      rintro rfl
      simp

end Claims

section States

variable {s t : State}

theorem State.sum_of_claims (same : t.units.map UnitRecord.claim = s.units.map UnitRecord.claim)
    {share : UnitRecord → Nat} {read : UnitClaim → Nat} (reads : ∀ r, share r = r.claim.elim 0 read) :
    (t.units.toList.map share).sum = (s.units.toList.map share).sum := by
  have lists := congrArg (fun v => (v.toList.map fun c => c.elim 0 read).sum) same
  simpa only [Vector.toList_map, List.map_map, Function.comp_def, ← reads] using lists

/-- The bounds hold on where what they read stays and the switch queue has no new first entry. -/
theorem State.DispatchSound.of_view (sound : s.DispatchSound) (same : t.dispatchView = s.dispatchView)
    (entries : t.switching.queue ≠ [] → s.switching.queue ≠ []) : t.DispatchSound := by
  simp only [State.dispatchView, DispatchView.mk.injEq] at same
  obtain ⟨claims, mode, setpoint, iCeiling⟩ := same
  have frozen : t.frozenSum = s.frozenSum := State.sum_of_claims claims UnitRecord.frozenShare_claim
  have capacity : t.capacitySum = s.capacitySum := State.sum_of_claims claims UnitRecord.capacityShare_claim
  have demands : t.servingDemands = s.servingDemands := State.sum_of_claims claims UnitRecord.servingDemand_claim
  have cap : t.iCap = s.iCap := by simp only [State.iCap, frozen, capacity]
  constructor
  · rw [mode, frozen, setpoint]
    exact sound.atLeastFrozen
  · rw [mode, frozen, setpoint, cap]
    exact sound.withinCapacity
  · rw [mode, demands, setpoint]
    exact sound.demandsAddUp
  · intro splits u member eligible
    have offered := (u.claim_eligible_iff ⟨false, u.capacity, u.demand⟩).mpr ⟨eligible, rfl⟩
    have inView : u.claim ∈ (s.units.map UnitRecord.claim).toList := by
      rw [← claims, Vector.toList_map]
      exact List.mem_map_of_mem member
    rw [Vector.toList_map, List.mem_map] at inView
    obtain ⟨v, member', claim⟩ := inView
    rw [← claim] at offered
    obtain ⟨eligible', numbers⟩ := (v.claim_eligible_iff _).mp offered
    simp only [UnitClaim.mk.injEq, true_and] at numbers
    rw [numbers.1, numbers.2]
    exact sound.demandWithin (mode ▸ splits) v member' eligible'
  · rw [mode, frozen, setpoint, iCeiling]
    exact fun run waiting => sound.ceiling run (entries waiting)

/-- A rewritten record whose unit claims what it did before. -/
theorem State.putUnit_dispatchView (u : Nat) {r : UnitRecord} (same : r.claim = (s.unit u).claim) :
    (s.putUnit u r).dispatchView = s.dispatchView := by
  have claims : (tput s.units u r).map UnitRecord.claim = s.units.map UnitRecord.claim := by
    have read : (s.unit u).claim = tget UnitRecord.empty.claim (s.units.map UnitRecord.claim) u :=
      (tget_map UnitRecord.claim UnitRecord.empty s.units u).symm
    rw [tput_map, same, read, tput_tget]
  simp only [State.dispatchView, State.putUnit_units, claims]
  rfl

/-! ### Requests -/

theorem State.DispatchSound.lineRequest (sound : s.DispatchSound) (serve : State → State × Reply)
    (served : ∀ t : State, t.DispatchSound → (serve t).1.DispatchSound) : (s.lineRequest serve).DispatchSound :=
  State.lineRequest_keeps State.DispatchSound s serve sound (fun _ kept => kept.of_view rfl id) served
    (fun _ _ _ kept => kept.of_view rfl id)

theorem State.DispatchSound.fieldRequest (sound : s.DispatchSound) (kinds : List NodeKind)
    (serve : Nat → State → State × Reply)
    (served : ∀ node (t : State), t.DispatchSound → (serve node t).1.DispatchSound) :
    (s.fieldRequest kinds serve).DispatchSound :=
  State.fieldRequest_keeps State.DispatchSound s kinds serve sound (fun _ kept => kept.of_view rfl id) served
    (fun _ _ kept => kept.of_view rfl id)

/-! ### Operations that end in an evaluation -/

theorem State.eventEvaluation_dispatchSound (s : State) : s.eventEvaluation.DispatchSound :=
  State.evaluate_dispatchSound s false

theorem State.DispatchSound.grantLoop (sound : s.DispatchSound) (n : Nat) : (State.grantLoop n s).DispatchSound := by
  induction n generalizing s with
  | zero => exact sound
  | succ n ih =>
    unfold State.grantLoop
    split
    · split
      · exact ih (State.eventEvaluation_dispatchSound _)
      · exact sound
    · exact sound

theorem State.DispatchSound.grantEvaluation (sound : s.DispatchSound) : s.grantEvaluation.DispatchSound :=
  sound.grantLoop 4

theorem State.cycleWork_dispatchSound (s : State) (arbiterFirst : Bool) : (s.cycleWork arbiterFirst).DispatchSound := by
  cases arbiterFirst with
  | true => exact State.evaluate_dispatchSound _ true
  | false => exact (State.evaluate_dispatchSound s true).grantEvaluation

/-! ### Switching (R65, R67, R71, R74, R75, R77) -/

theorem State.DispatchSound.endSwitch (sound : s.DispatchSound) (p : Nat) (result : SwitchResult) :
    (s.endSwitch p result).DispatchSound := by
  have queue : (s.endSwitch p result).switching.queue = s.switching.queue.erase p := State.advanceSwitchQueue_queue _ p
  have view : (s.endSwitch p result).dispatchView = s.dispatchView := by
    rw [State.endSwitch_frame]
    rfl
  refine sound.of_view view fun left none => left ?_
  rw [queue, none]
  rfl

theorem State.DispatchSound.expireSwitch (sound : s.DispatchSound) (p : Nat) (result : SwitchResult) :
    (s.expireSwitch p result).DispatchSound :=
  (sound.endSwitch p result).of_view rfl id

theorem State.DispatchSound.startSwitch (sound : s.DispatchSound) (p : Nat) (d : Direction) :
    (s.startSwitch p d).DispatchSound := by
  rw [State.startSwitch_eq]
  split
  · exact State.eventEvaluation_dispatchSound _
  · next waiting => exact sound.of_view rfl fun _ => waiting

theorem State.DispatchSound.completeSwitch (sound : s.DispatchSound) (p : Nat) : (s.completeSwitch p).DispatchSound := by
  have applied : (s.applySwitch p).DispatchSound := by
    unfold State.applySwitch
    split
    · split <;> exact sound.of_view rfl id
    · exact sound
  exact (applied.endSwitch p .completed).of_view rfl id

/-! ### The Quench Arbiter's releases and expiries, and the watch (R33, R36, R37, R53, R55, R56) -/

theorem State.DispatchSound.freeSlotOf (sound : s.DispatchSound) (p : Nat) : (s.freeSlotOf p).DispatchSound := by
  rw [State.freeSlotOf_frame]
  exact sound.of_view rfl id

theorem State.DispatchSound.endQuench (sound : s.DispatchSound) (p : Nat) : (s.endQuench p).DispatchSound :=
  (sound.freeSlotOf p).of_view rfl id

theorem State.DispatchSound.confirmEffect (sound : s.DispatchSound) (p : Nat) : (s.confirmEffect p).DispatchSound := by
  have cancelled : ∀ t : State, t.DispatchSound → (t.cancelByEffect p).DispatchSound := fun t kept => by
    unfold State.cancelByEffect
    split
    · exact kept.endSwitch p _
    · exact kept
  refine State.DispatchSound.grantEvaluation ((cancelled _ ?_).of_view rfl id)
  exact sound.of_view rfl id

theorem State.DispatchSound.endEffect (sound : s.DispatchSound) (p : Nat) : (s.endEffect p).DispatchSound := by
  have released : (s.releaseClaim p).DispatchSound := by
    unfold State.releaseClaim
    split
    · exact sound.of_view rfl id
    · exact State.DispatchSound.grantEvaluation ((sound.freeSlotOf p).of_view rfl id)
    · exact sound.of_view rfl id
    · exact sound
  exact released.of_view rfl id

theorem State.DispatchSound.escalate (sound : s.DispatchSound) (p : Nat) : (s.escalate p).DispatchSound := by
  unfold State.escalate
  dsimp only
  split
  · exact State.DispatchSound.grantEvaluation (sound.of_view rfl id)
  · exact sound.of_view rfl id

theorem State.DispatchSound.acceptReport (sound : s.DispatchSound) (p v : Nat) : (s.acceptReport p v).DispatchSound := by
  have stored : (s.putPot p (s.reportedRecord (s.pot p) v)).DispatchSound := sound.of_view rfl id
  unfold State.acceptReport
  dsimp only
  split
  · rcases State.examineReport_cases (s.putPot p (s.reportedRecord (s.pot p) v)) p with h | ⟨r, h, -⟩ | h | h <;> rw [h]
    · exact stored
    · exact stored.of_view rfl id
    · exact stored.confirmEffect p
    · exact stored.endEffect p
  · exact stored

theorem State.DispatchSound.takeItems (sound : s.DispatchSound) (node : Nat) (items : List ReportItem) :
    (State.takeItems node items s).1.DispatchSound := by
  induction items generalizing s with
  | nil => exact sound
  | cons i rest ih =>
    refine ih (s := (s.takeItem node i).1) ?_
    unfold State.takeItem
    dsimp only
    split
    · exact sound.acceptReport _ _
    · exact sound

end States

end Sys2Proof.Machine
end

section
/-! PROOFS. Every step keeps the bounds of the setpoint and the sum of the demands: the commands one by one (R124, R126). -/

namespace Sys2Proof.Machine

section Steps

variable {s t : State}

/-! ### The commands that leave what the bounds read -/

/-- The view and the switch queue, which most commands leave. -/
def State.dispatchParts (s : State) : DispatchView × SwitchController :=
  ⟨s.dispatchView, s.switching⟩

theorem State.tick_dispatchParts (s : State) (shed : Bool) : (s.tick shed).dispatchParts = s.dispatchParts := by
  have closed : ∀ v : State, v.closeOrProject.current = v.current := fun v => by
    unfold State.closeOrProject
    split
    · change (v.intervalClosed _).periodClosed.current = _
      unfold State.periodClosed
      split <;> rfl
    · unfold State.project
      dsimp only
      split <;> rfl
  have current : (s.tick shed).current = s.current :=
    (closed _).trans (s.advanced.metered shed).calendarMoved_frame.2.2.1
  obtain ⟨-, -, switching, -⟩ := s.tick_watch shed
  simp only [State.dispatchParts, State.dispatchView, State.params, State.tick_units, current, switching]

/-- The commands after which the bounds have to be looked at: those that evaluate, and those that write a unit record or
take from the switch queue. -/
def movesDispatch : Instr → Bool
  | .reset | .dispatchCycle _ | .escalation _ | .settleExpiry _ | .permitExpiry _ | .rampFailure | .windowExpiry
  | .flowGraceExpiry _ | .unitSilence _ | .unitLoss _ | .potReport _ | .switchRequest _ _ _ | .switchDone _ _
  | .switchCancel _ _ | .quenchEnd _ _ | .unitReport _ _ _ _ _ | .defineUnit _ _ _ _ _ _ | .removeUnit _ | .tripUnit _
  | .restoreUnit _ | .setParam _ _ | .run | .hold | .resume => true
  | _ => false

theorem State.lineRequest_dispatchParts (s : State) (serve : State → State × Reply)
    (served : ∀ t, (serve t).1.dispatchParts = t.dispatchParts) : (s.lineRequest serve).dispatchParts = s.dispatchParts :=
  State.lineRequest_keeps (fun t => t.dispatchParts = s.dispatchParts) s serve rfl (fun _ kept => kept)
    (fun t kept => (served t).trans kept) (fun _ _ _ kept => kept)

theorem State.serveLoadTariff_dispatchParts (s : State) (part : TariffPart) (final : Bool) :
    (s.serveLoadTariff part final).1.dispatchParts = s.dispatchParts := by
  have finished : ∀ h working rest, (s.finishLoad h working rest).1.dispatchParts = s.dispatchParts := by
    intro h working rest
    unfold State.finishLoad
    split <;> rfl
  unfold State.serveLoadTariff
  split
  · split
    · rfl
    · cases part
      case header h => cases final; exacts [rfl, finished h _ _]
      all_goals rfl
  · cases part
    case working => cases final; exacts [rfl, finished _ _ _]
    all_goals rfl
  · cases part
    case rest => cases final; exacts [rfl, finished _ _ _]
    all_goals rfl

theorem State.serveSetClock_dispatchParts (s : State) (time day : Nat) :
    (s.serveSetClock time day).1.dispatchParts = s.dispatchParts := by
  unfold State.serveSetClock
  split
  · rfl
  · change (s.intervalClosed _).periodClosed.dispatchParts = _
    unfold State.periodClosed
    split <;> rfl

theorem exec_keeps_dispatchParts (c : Instr) (s t : State) (other : movesDispatch c = false)
    (done : exec c s = .next t) : t.dispatchParts = s.dispatchParts := by
  cases c <;> cases other <;> cases done
  case meteringTick shed => exact s.tick_dispatchParts shed
  case dayRollover shed | intervalClose shed | curtailmentExpiry shed => split; exacts [s.tick_dispatchParts shed, rfl]
  case potSilence | turn | idleTime | fieldFrameGap | lmFrameRefused | rangeFrameNext | lmReplyEnd => split <;> rfl
  case startHoldExpiry =>
    dsimp only
    split <;> rfl
  case miss =>
    unfold State.countMiss
    dsimp only
    repeat' split
    all_goals rfl
  case fieldFrameRefused =>
    dsimp only
    repeat' split
    all_goals rfl
  case lmBreak | lmFrameGap | lmrxIdleReturn => rfl
  case pass =>
    exact State.fieldRequest_keeps (fun t => t.dispatchParts = s.dispatchParts) s _ _ rfl (fun _ kept => kept)
      (fun _ _ kept => kept) (fun _ _ kept => kept)
  case readPotRange =>
    unfold State.takeRange
    dsimp only
    split_ifs <;> rfl
  case loadTariff part final =>
    exact State.loadFrame_keeps (fun t => t.dispatchParts = s.dispatchParts) s _ rfl
      (fun t kept => (t.serveLoadTariff_dispatchParts part final).trans kept) (fun _ _ _ kept => kept)
  case setClock => exact State.lineRequest_dispatchParts s _ fun t => t.serveSetClock_dispatchParts _ _
  case readNodes | setTarget | readLine | readMeter | readPeriod | closePeriod | lockTariff | getAttention =>
    exact State.lineRequest_dispatchParts s _ fun _ => rfl
  case admitPot | retirePot | assignOwner | readPot | readUnit | addNode | dropNode | readParam | curtail | cancelCurtail |
      readTariff | ackAttention | setAttentionMask =>
    refine State.lineRequest_dispatchParts s _ fun t => ?_
    simp only [State.serveAdmit, State.serveRetire, State.serveAssign, State.serveReadPot, State.serveReadUnit,
      State.serveAddNode, State.serveDropNode, State.serveReadParam, State.serveCurtail, State.serveCancelCurtail,
      State.serveReadTariff, State.serveAck, State.serveSetMask]
    repeat' split
    all_goals rfl

/-! ### The requests of a pot controller (R52, R66, R73, R77) -/

theorem State.DispatchSound.serveQuenchEnd (sound : s.DispatchSound) (node p tag : Nat) :
    (s.serveQuenchEnd node p tag).1.DispatchSound := by
  unfold State.serveQuenchEnd
  dsimp only
  split
  · exact (sound.endQuench p).grantEvaluation
  · exact sound

theorem State.DispatchSound.serveSwitchRequest (sound : s.DispatchSound) (node p tag direction : Nat) :
    (s.serveSwitchRequest node p tag direction).1.DispatchSound := by
  unfold State.serveSwitchRequest
  dsimp only
  split
  · exact sound.startSwitch p _
  · exact sound

theorem State.DispatchSound.serveSwitchDone (sound : s.DispatchSound) (node p tag : Nat) :
    (s.serveSwitchDone node p tag).1.DispatchSound := by
  unfold State.serveSwitchDone
  dsimp only
  split
  · exact sound.completeSwitch p
  · exact sound

theorem State.DispatchSound.serveSwitchCancel (sound : s.DispatchSound) (node p tag : Nat) :
    (s.serveSwitchCancel node p tag).1.DispatchSound := by
  unfold State.serveSwitchCancel
  dsimp only
  split
  · exact sound.endSwitch p _
  · exact sound

/-! ### The examinations (R37, R55, R56, R71, R75) -/

theorem State.DispatchSound.settleExpiry (sound : s.DispatchSound) {p : Nat}
    (done : exec (.settleExpiry p) s = .next t) : t.DispatchSound := by
  cases done
  split
  · exact State.DispatchSound.grantEvaluation (sound.of_view rfl id)
  · exact sound

theorem State.DispatchSound.permitExpiry (sound : s.DispatchSound) {k : Nat}
    (done : exec (.permitExpiry k) s = .next t) : t.DispatchSound := by
  cases done
  split
  · split
    · exact State.DispatchSound.grantEvaluation (sound.of_view rfl id)
    · exact sound
  · exact sound

theorem State.DispatchSound.headExamination (sound : s.DispatchSound) {c : Instr}
    (examines : c = .rampFailure ∨ c = .windowExpiry) (done : exec c s = .next t) : t.DispatchSound := by
  rcases examines with rfl | rfl
  all_goals
    cases done
    split
    · split
      · exact sound.expireSwitch _ _
      · exact sound
    · exact sound

/-! ### Units (R84 to R99) -/

theorem State.dispatchSound_of_adopt (adopt : s.current.mode = .adopt) : s.DispatchSound := by
  constructor <;> simp [adopt]

theorem UnitRecord.claim_of_not_serving {r : UnitRecord} (other : r.state ≠ .serving) : r.claim = none :=
  if_neg fun serving => other (r.serving_iff.mp serving)

/-- In RUN and HOLD a report that calls for no evaluation leaves what its unit claims (R87, R104). -/
theorem State.reportedUnit_claim {r : UnitRecord} {measured temperature : Nat} {flowOk closed : Bool}
    (splits : s.current.mode ≠ .adopt)
    (calls : ¬ r.callsEvaluation (s.reportedUnit r measured temperature flowOk closed) = true) :
    (s.reportedUnit r measured temperature flowOk closed).claim = r.claim := by
  have calls := (State.callsEvaluation_reported_iff s r measured temperature flowOk closed).not.mp calls
  obtain ⟨⟨_, _, _, _, _, silent⟩, _⟩ := State.reportedUnit_stored s r measured temperature flowOk closed
  simp only [not_or, not_and, not_not] at calls
  obtain ⟨state, silent', capacity⟩ := calls
  by_cases serving : (s.reportedUnit r measured temperature flowOk closed).state = .serving
  · have demand : (s.reportedUnit r measured temperature flowOk closed).demand = r.demand := by
      rw [State.reportedUnit_state] at serving
      have finished : s.reportedUnit r measured temperature flowOk closed = _ :=
        UnitRecord.finished_serving serving s.now s.current.mode
      rw [finished, (UnitRecord.settledState_serving serving).1]
      exact if_neg splits
    have quiet : r.silent = false := Bool.eq_false_iff.mpr (silent' serving)
    unfold UnitRecord.claim UnitRecord.serving
    rw [state, capacity serving, demand, silent, quiet]
  · rw [UnitRecord.claim_of_not_serving serving, UnitRecord.claim_of_not_serving (state ▸ serving)]

theorem State.DispatchSound.serveUnitReport (sound : s.DispatchSound) (node u measured temperature : Nat)
    (flowOk closed : Bool) : (s.serveUnitReport node u measured temperature flowOk closed).1.DispatchSound := by
  have raised : ∀ (v : State) (c : Bool) (source : Source), v.DispatchSound → (v.raiseIf c source u).DispatchSound :=
    fun v c _ kept => by cases c <;> exact kept.of_view rfl id
  unfold State.serveUnitReport
  dsimp only
  split
  · unfold State.acceptUnitReport
    dsimp only
    split
    · exact State.eventEvaluation_dispatchSound _
    · next calls =>
      refine raised _ _ _ (raised _ _ _ ?_)
      by_cases adopt : s.current.mode = .adopt
      · exact State.dispatchSound_of_adopt adopt
      · exact sound.of_view (State.putUnit_dispatchView u (State.reportedUnit_claim adopt calls)) id
  · exact sound

theorem State.DispatchSound.silenceUnit (sound : s.DispatchSound) (u : Nat) : (s.silenceUnit u).DispatchSound := by
  rw [State.silenceUnit_eq]
  split
  · exact State.eventEvaluation_dispatchSound _
  · next other =>
    refine sound.of_view (State.putUnit_dispatchView u ?_) id
    rw [UnitRecord.claim_of_not_serving other]
    exact UnitRecord.claim_of_not_serving other

/-- The examinations of a unit record (R91, R96, R97). -/
theorem State.DispatchSound.unitExamination (sound : s.DispatchSound) {c : Instr} {u : Nat}
    (examines : c = .flowGraceExpiry u ∨ c = .unitSilence u ∨ c = .unitLoss u) (done : exec c s = .next t) :
    t.DispatchSound := by
  rcases examines with rfl | rfl | rfl
  · cases done
    split; exacts [State.eventEvaluation_dispatchSound _, sound]
  · cases done
    split; exacts [sound.silenceUnit u, sound]
  · cases done
    split; exacts [State.eventEvaluation_dispatchSound _, sound]

/-! ### The requests of the line master that call for an evaluation (R84, R93, R95, R99, R108 to R110, R130) -/

/-- A request that has been refused, or served up to an event evaluation. -/
def State.EndsInEvaluation (s : State) (served : State × Reply) : Prop :=
  served.1 = s ∨ ∃ v, served.1 = State.eventEvaluation v

theorem State.endsInEvaluation_refused (s : State) (status : ReqStatus) : s.EndsInEvaluation (s.answer status) := .inl rfl

theorem State.endsInEvaluation_served (s v : State) (status : ReqStatus) :
    s.EndsInEvaluation (v.eventEvaluation.answer status) := .inr ⟨v, rfl⟩

theorem State.DispatchSound.evaluatingRequest (sound : s.DispatchSound) (serve : State → State × Reply)
    (ends : ∀ t : State, t.EndsInEvaluation (serve t)) : (s.lineRequest serve).DispatchSound := by
  refine sound.lineRequest serve fun t kept => ?_
  rcases ends t with refused | ⟨v, served⟩
  · rwa [refused]
  · exact served ▸ State.eventEvaluation_dispatchSound v

theorem State.serveRun_ends (s : State) : s.EndsInEvaluation s.serveRun := by
  unfold State.serveRun
  split_ifs
  exacts [s.endsInEvaluation_refused _, s.endsInEvaluation_refused _, s.endsInEvaluation_served _ _]

theorem State.serveHold_ends (s : State) : s.EndsInEvaluation s.serveHold := by
  unfold State.serveHold
  split_ifs
  exacts [s.endsInEvaluation_refused _, s.endsInEvaluation_refused _, s.endsInEvaluation_served _ _]

theorem State.serveResume_ends (s : State) : s.EndsInEvaluation s.serveResume := by
  unfold State.serveResume
  split_ifs
  exacts [s.endsInEvaluation_refused _, s.endsInEvaluation_served _ _]

theorem State.serveDefineUnit_ends (s : State) (u node rated vMax tDerate tTrip : Nat) :
    s.EndsInEvaluation (s.serveDefineUnit u node rated vMax tDerate tTrip) := by
  unfold State.serveDefineUnit
  dsimp only
  split_ifs
  exacts [s.endsInEvaluation_served _ _, s.endsInEvaluation_refused _]

theorem State.serveRestoreUnit_ends (s : State) (u : Nat) : s.EndsInEvaluation (s.serveRestoreUnit u) := by
  unfold State.serveRestoreUnit
  dsimp only
  split_ifs
  exacts [s.endsInEvaluation_served _ _, s.endsInEvaluation_refused _]

theorem State.serveRemoveUnit_ends (s : State) (u : Nat) : s.EndsInEvaluation (s.serveRemoveUnit u) := by
  unfold State.serveRemoveUnit
  split_ifs
  exacts [s.endsInEvaluation_refused _, s.endsInEvaluation_served _ _, s.endsInEvaluation_refused _]

theorem State.serveTripUnit_ends (s : State) (u : Nat) : s.EndsInEvaluation (s.serveTripUnit u) := by
  unfold State.serveTripUnit
  split_ifs
  exacts [s.endsInEvaluation_refused _, s.endsInEvaluation_served _ _, s.endsInEvaluation_refused _]

theorem Params.set_iCeiling (p : Params) {i : Nat} (other : i ≠ 8) (v : Nat) : (p.set i v).iCeiling = p.iCeiling := by
  unfold Params.set
  split
  case h_8 => exact absurd rfl other
  all_goals rfl

theorem State.DispatchSound.serveSetParam (sound : s.DispatchSound) (i v : Nat) :
    (s.serveSetParam i v).1.DispatchSound := by
  unfold State.serveSetParam
  dsimp only [State.answer]
  split_ifs with good calls
  · exact State.eventEvaluation_dispatchSound _
  · have other : i ≠ 8 := by
      rintro rfl
      exact calls rfl
    refine sound.of_view ?_ id
    simp only [State.dispatchView, State.params, State.withParam_units, State.withParam_current,
      Params.set_iCeiling _ other]
  · exact sound

/-! ### Every command and every step -/

theorem exec_dispatchSound (c : Instr) (s t : State) (sound : s.DispatchSound) (done : exec c s = .next t) :
    t.DispatchSound := by
  cases c with
  | reset =>
    cases done
    exact State.dispatchSound_of_adopt rfl
  | dispatchCycle arbiterFirst =>
    cases done
    refine (State.cycleWork_dispatchSound s.dividerAdvanced arbiterFirst).of_view ?_ ?_ <;> rw [State.compareHead_frame]
    exacts [rfl, id]
  | escalation p =>
    cases done
    split
    · exact sound.escalate p
    · exact sound
  | settleExpiry p => exact sound.settleExpiry done
  | permitExpiry k => exact sound.permitExpiry done
  | rampFailure => exact sound.headExamination (.inl rfl) done
  | windowExpiry => exact sound.headExamination (.inr rfl) done
  | flowGraceExpiry u => exact sound.unitExamination (.inl rfl) done
  | unitSilence u => exact sound.unitExamination (.inr (.inl rfl)) done
  | unitLoss u => exact sound.unitExamination (.inr (.inr rfl)) done
  | potReport items =>
    cases done
    exact sound.fieldRequest _ _ fun node _ kept => kept.takeItems node items
  | switchRequest p tag d =>
    cases done
    exact sound.fieldRequest _ _ fun node _ kept => kept.serveSwitchRequest node p tag d
  | switchDone p tag =>
    cases done
    exact sound.fieldRequest _ _ fun node _ kept => kept.serveSwitchDone node p tag
  | switchCancel p tag =>
    cases done
    exact sound.fieldRequest _ _ fun node _ kept => kept.serveSwitchCancel node p tag
  | quenchEnd p tag =>
    cases done
    exact sound.fieldRequest _ _ fun node _ kept => kept.serveQuenchEnd node p tag
  | unitReport u measured temperature flowOk closed =>
    cases done
    exact sound.fieldRequest _ _ fun node _ kept => kept.serveUnitReport node u measured temperature flowOk closed
  | defineUnit u node rated vMax tDerate tTrip =>
    cases done
    exact sound.evaluatingRequest _ fun v => v.serveDefineUnit_ends u node rated vMax tDerate tTrip
  | removeUnit u =>
    cases done
    exact sound.evaluatingRequest _ fun v => v.serveRemoveUnit_ends u
  | tripUnit u =>
    cases done
    exact sound.evaluatingRequest _ fun v => v.serveTripUnit_ends u
  | restoreUnit u =>
    cases done
    exact sound.evaluatingRequest _ fun v => v.serveRestoreUnit_ends u
  | setParam i v =>
    cases done
    exact sound.lineRequest _ fun _ kept => kept.serveSetParam i v
  | run =>
    cases done
    exact sound.evaluatingRequest _ State.serveRun_ends
  | hold =>
    cases done
    exact sound.evaluatingRequest _ State.serveHold_ends
  | resume =>
    cases done
    exact sound.evaluatingRequest _ State.serveResume_ends
  | _ =>
    have parts := exec_keeps_dispatchParts _ s t rfl done
    exact sound.of_view (congrArg Prod.fst parts :) ((congrArg (fun x => x.2.queue ≠ []) parts :).mp)

end Steps

/-- Settles O33: an evaluation sets the bounds whatever stood before it, and no other change reaches what they read. -/
theorem setpointAndDemandsStaySound : Obligations.SetpointAndDemandsStaySound := by
  intro s t sound done
  cases front : s.pending with
  | nil =>
    rw [step_idle s front] at done
    cases done
    rw [State.replyEnded_frame]
    exact sound.of_view rfl id
  | cons c rest =>
    rw [step_waiting s c rest front] at done
    exact exec_dispatchSound c (s.withPending rest) t (sound.of_view rfl id) done

end Sys2Proof.Machine
end

section
/-! PROOFS. The values after reset in the blocks other than the Pot Register (R44, R46, R64, R83, R107, R128, R139, R143,
R144, R147, R154, R160, R161, R164, R172, R180, R181, R191). -/

namespace Sys2Proof.Machine

theorem PeriodFigures.empty_band (b : Nat) : PeriodFigures.empty.band b = ⟨0, 0⟩ :=
  tget_replicate 4 (⟨0, 0⟩ : BandEnergy) b

/-- The mask after reset enables every source (R172). -/
theorem AttentionUnit.reset_enabled {c : Nat} (low : 1 ≤ c) (high : c ≤ 12) : State.reset.attention.enabled c = true := by
  interval_cases c <;> rfl

/-- The parameters after reset, in the order of their identifiers (R128). -/
theorem Params.defaults_get :
    (List.range 26).map (fun i => Params.defaults.get (i + 1)) =
      [1650, 6500, 20, 1500, 30000, 20000, 24000, 30000, 10, 5000, 8000, 6000, 2, 180, 120, 30, 240, 15, 5, 20, 30,
        300, 600, 400000, 38400, 115200].map some := rfl

/-- Settles O4: the tables are filled with their reset entries, and every other field is written out in the reset state. -/
theorem resetValuesOfEveryBlock : Obligations.ResetValuesOfEveryBlock := by
  intro s
  refine ⟨_, rfl, ⟨rfl, rfl, rfl, rfl, rfl⟩, Params.defaults_get, fun u _ _ => State.reset_unit u, rfl,
    fun k _ _ => State.reset_slot k, rfl, ⟨rfl, rfl, rfl, rfl, rfl, rfl, rfl, rfl, rfl, rfl, rfl, rfl, rfl⟩, ?period,
    ⟨rfl, rfl, rfl, rfl⟩, ⟨rfl, fun c low high => ⟨State.reset_source c, AttentionUnit.reset_enabled low high⟩⟩,
    ⟨rfl, rfl, rfl, rfl, rfl, rfl, rfl, rfl, rfl, rfl⟩⟩
  case period =>
    exact ⟨fun b _ _ => ⟨PeriodFigures.empty_band b, PeriodFigures.empty_band b⟩, rfl, rfl, rfl, rfl, rfl, rfl, rfl, rfl,
      rfl, rfl, rfl, rfl⟩

end Sys2Proof.Machine
end

section
/-! PROOFS. The requests of the line master to the Current Dispatcher: SET TARGET, RUN, HOLD and RESUME, and the line
parameters (R108 to R110, R115, R128 to R131). -/

namespace Sys2Proof.Machine

open Sys2Proof.Claims

/-! ### Target and line mode (R108 to R110, R115) -/

section Modes

variable {s : State} (takes : s.port.takes = true)

/-- No unit is SERVING, over the eight unit numbers (R108 check 2). -/
theorem State.noneServing_iff (s : State) :
    (!(s.units.toList.any UnitRecord.serving)) = true ↔
      ([1, 2, 3, 4, 5, 6, 7, 8].all fun k => (s.unit k).state != .serving) = true := by
  rw [State.units_toList, List.any_map, List.not_any_eq_all_not]
  rfl

include takes

theorem exec_run :
    exec .run s = .next (
      if s.current.mode ≠ .adopt then answered s.abandonLoad .state []
      else if ([1, 2, 3, 4, 5, 6, 7, 8].all fun k => (s.unit k).state != .serving) = true then
        answered s.abandonLoad .state []
      else
        answered (State.eventEvaluation
          { s.abandonLoad with current := { s.current with mode := .run, setpoint := s.iMeas } }) .done []) := by
  refine congrArg Host.Outcome.next ((State.lineRequest_replied takes _).trans ?_)
  unfold State.serveRun
  rw [apply_ite State.replied, apply_ite State.replied]
  exact if_congr Iff.rfl rfl (if_congr s.noneServing_iff rfl rfl)

theorem exec_hold :
    exec .hold s = .next (
      if s.current.mode ≠ .run then answered s.abandonLoad .state []
      else if s.switching.queue ≠ [] then answered s.abandonLoad .busy []
      else
        answered (State.eventEvaluation { s.abandonLoad with current := { s.current with mode := .hold } }) .done []) := by
  refine congrArg Host.Outcome.next ((State.lineRequest_replied takes _).trans ?_)
  unfold State.serveHold
  rw [apply_ite State.replied, apply_ite State.replied]
  rfl

theorem exec_resume :
    exec .resume s = .next (
      if s.current.mode ≠ .hold then answered s.abandonLoad .state []
      else
        answered (State.eventEvaluation { s.abandonLoad with current := { s.current with mode := .run } }) .done []) := by
  refine congrArg Host.Outcome.next ((State.lineRequest_replied takes _).trans ?_)
  unfold State.serveResume
  rw [apply_ite State.replied]
  rfl

end Modes

/-- Settles O35: each request is answered after its checks, and one that passes is served up to an event evaluation. -/
theorem lineMasterSetsTargetAndMode : Obligations.LineMasterSetsTargetAndMode :=
  ⟨fun _ _ takes => congrArg Host.Outcome.next (State.lineRequest_replied takes _),
    fun _ takes => ⟨exec_run takes, exec_hold takes, exec_resume takes⟩⟩

end Sys2Proof.Machine
end

section
/-! PROOFS. The line parameters: SET PARAM and READ PARAM (R128 to R131). -/

namespace Sys2Proof.Machine

open Sys2Proof.Claims

/-! ### The parameter set as a table of 26 values (R128) -/

/-- The values of the line parameters in the order of their identifiers. -/
def Params.values (p : Params) : List Nat :=
  [p.e0, p.rNom, p.rBypass, p.rBus, p.vBaseReserve, p.qRes, p.iFloor, p.iCeiling, p.rampStep, p.iRmin, p.vAe, p.vAeEnd,
    p.tConfirm, p.tEsc, p.tQuench, p.tSettle, p.tStartHold, p.tPotSilent, p.tUnitSilent, p.tUnitLost, p.tFlowGrace,
    p.tRampFail, p.tWindow, p.shedLimit, p.fieldSpeed, p.portSpeed]

theorem Params.get_zero (p : Params) : p.get 0 = none := rfl

theorem Params.get_succ (p : Params) (i : Nat) : p.get (i + 1) = p.values[i]? := by
  by_cases inside : i < 26
  · interval_cases i <;> rfl
  · obtain ⟨n, rfl⟩ := Nat.exists_eq_add_of_le' (not_lt.mp inside)
    rfl

theorem Params.values_set (p : Params) (i v : Nat) : (p.set (i + 1) v).values = p.values.set i v := by
  by_cases inside : i < 26
  · interval_cases i <;> rfl
  · obtain ⟨n, rfl⟩ := Nat.exists_eq_add_of_le' (not_lt.mp inside)
    rfl

theorem Params.get_isSome_iff (p : Params) (i : Nat) : (p.get i).isSome = true ↔ 1 ≤ i ∧ i ≤ 26 := by
  cases i with
  | zero => simp [Params.get_zero]
  | succ i =>
    have size : p.values.length = 26 := rfl
    rw [Params.get_succ, isSome_getElem?, size]
    omega

/-- A stored parameter is read back, and every other stands (R130, R131). -/
theorem Params.get_set (p : Params) {i : Nat} (known : 1 ≤ i ∧ i ≤ 26) (v j : Nat) :
    (p.set i v).get j = if j = i then some v else p.get j := by
  obtain ⟨i, rfl⟩ := Nat.exists_eq_add_of_le' known.1
  cases j with
  | zero => rfl
  | succ j =>
    have inside : i < p.values.length := by
      have size : p.values.length = 26 := rfl
      omega
    rw [Params.get_succ, Params.get_succ, Params.values_set, List.getElem?_set, if_pos inside]
    exact if_congr (by omega) rfl rfl

/-! ### The checks of SET PARAM (R129) -/

/-- Every identifier has a row of the table of R128: its bounds, or one of the four rows that are no pair of bounds. -/
theorem paramRow_of_known {i : Nat} (known : 1 ≤ i ∧ i ≤ 26) :
    (∃ b ∈ paramBounds, b.1 = i) ∨ i = 12 ∨ i = 20 ∨ i = 25 ∨ i = 26 := by
  obtain ⟨low, high⟩ := known
  interval_cases i <;> decide

theorem paramBounds_known : ∀ b ∈ paramBounds, (1 ≤ b.1 ∧ b.1 ≤ 26) ∧ b.1 ≠ 12 ∧ b.1 ≠ 20 := by
  decide

theorem paramInRange_bounds (v : Nat) :
    ∀ b ∈ paramBounds, paramInRange b.1 v = (decide (b.2.1 ≤ v) && decide (v ≤ b.2.2)) := by
  simp only [paramBounds, List.forall_mem_cons, List.not_mem_nil, false_implies, implies_true, and_true]
  and_intros <;> rfl

theorem paramInRange_speed {i : Nat} (speed : i = 25 ∨ i = 26) (v : Nat) :
    paramInRange i v = true ↔ v = 19200 ∨ v = 38400 ∨ v = 57600 ∨ v = 115200 := by
  rcases speed with rfl | rfl <;> simp [paramInRange, speeds]

theorem Params.crossGood_iff (p : Params) (i v : Nat) :
    p.crossGood i v = true ↔ (i = 11 → p.vAeEnd + 500 ≤ v) ∧ (i = 12 → v + 500 ≤ p.vAe) ∧ (i = 19 → v < p.tUnitLost) ∧
      (i = 20 → p.tUnitSilent < v) := by
  unfold Params.crossGood
  split <;> simp_all

theorem State.setParamGood_iff (s : State) (i v : Nat) : s.setParamGood i v = true ↔ paramAllowed s i v := by
  unfold State.setParamGood
  rw [Bool.and_eq_true, Bool.and_eq_true, Params.get_isSome_iff, Params.crossGood_iff, and_assoc]
  constructor
  · rintro ⟨known, inRange, ends, ends', silent, lost⟩
    rcases paramRow_of_known known with ⟨b, row, rfl⟩ | rfl | rfl | speed
    · rw [paramInRange_bounds v b row, Bool.and_eq_true, decide_eq_true_eq, decide_eq_true_eq] at inRange
      exact .inl ⟨b, row, rfl, inRange.1, inRange.2, ends, silent⟩
    · exact .inr (.inl ⟨rfl, of_decide_eq_true inRange, ends' rfl⟩)
    · exact .inr (.inr (.inl ⟨rfl, lost rfl, of_decide_eq_true inRange⟩))
    · exact .inr (.inr (.inr ⟨speed, (paramInRange_speed speed v).mp inRange⟩))
  · rintro (⟨b, row, rfl, low, high, ends, silent⟩ | ⟨rfl, low, ends⟩ | ⟨rfl, lost, high⟩ | ⟨speed, value⟩)
    · obtain ⟨known, not12, not20⟩ := paramBounds_known b row
      refine ⟨known, ?_, ends, (absurd · not12), silent, (absurd · not20)⟩
      rw [paramInRange_bounds v b row, decide_eq_true low, decide_eq_true high, Bool.and_self]
    · exact ⟨by omega, decide_eq_true low, by omega, fun _ => ends, by omega, by omega⟩
    · exact ⟨by omega, decide_eq_true high, by omega, by omega, by omega, fun _ => lost⟩
    · exact ⟨by omega, (paramInRange_speed speed v).mpr value, by omega, by omega, by omega, by omega⟩

theorem known_of_paramAllowed {s : State} {i v : Nat} (allowed : paramAllowed s i v) : 1 ≤ i ∧ i ≤ 26 := by
  have good := (s.setParamGood_iff i v).mpr allowed
  unfold State.setParamGood at good
  rw [Bool.and_eq_true, Bool.and_eq_true] at good
  exact (s.params.get_isSome_iff i).mp good.1.1

theorem paramCallsEvaluation_iff (i : Nat) : paramCallsEvaluation i = true ↔ i ∈ [1, 3, 4, 5, 6, 7, 8] :=
  List.contains_iff_mem

/-! ### The requests (R129 to R131) -/

section Requests

variable {s : State} (takes : s.port.takes = true)

/-- A parameter stored on the state whose load is abandoned, with the evaluation that R130 calls for. -/
def State.paramStored (s : State) (i v : Nat) : State :=
  if i ∈ [1, 3, 4, 5, 6, 7, 8] then (s.abandonLoad.withParam i v).eventEvaluation else s.abandonLoad.withParam i v

theorem State.paramStored_frame (s : State) (i v : Nat) :
    (s.paramStored i v).port = s.port ∧ (s.paramStored i v).params = s.params.set i v := by
  unfold State.paramStored
  split
  · have links := State.evaluate_links (s.abandonLoad.withParam i v) false
    exact ⟨links.port, links.params⟩
  · exact ⟨rfl, rfl⟩

include takes

theorem exec_setParam_allowed {i v : Nat} (allowed : paramAllowed s i v) :
    exec (.setParam i v) s = .next (answered (s.paramStored i v) .done []) := by
  have good : s.abandonLoad.setParamGood i v = true := s.setParamGood_iff i v |>.mpr allowed
  refine congrArg Host.Outcome.next ((State.lineRequest_replied takes _).trans ?_)
  unfold State.serveSetParam State.paramStored
  rw [if_pos good, ← ite_congr (propext (paramCallsEvaluation_iff i)) (fun _ => rfl) (fun _ => rfl)]
  rfl

theorem exec_setParam_refused {i v : Nat} (refused : ¬ paramAllowed s i v) :
    exec (.setParam i v) s = .next (answered s.abandonLoad .param []) := by
  have bad : ¬ s.abandonLoad.setParamGood i v = true := s.setParamGood_iff i v |>.not.mpr refused
  refine congrArg Host.Outcome.next ((State.lineRequest_replied takes _).trans ?_)
  unfold State.serveSetParam
  rw [if_neg bad]
  rfl

theorem exec_readParam (i : Nat) :
    exec (.readParam i) s = .next
      (match s.params.get i with
      | some v => answered s.abandonLoad .done (be 4 v)
      | none => answered s.abandonLoad .param []) := by
  have params : s.abandonLoad.params = s.params := rfl
  refine congrArg Host.Outcome.next ((State.lineRequest_replied takes _).trans ?_)
  unfold State.serveReadParam
  rw [params]
  cases s.params.get i <;> rfl

end Requests

/-- The reply of a request comes to its end, and the receiver takes the next frame (R194). -/
theorem exec_lmReplyEnd_answered {s : State} (takes : s.port.takes = true) (status : ReqStatus) (payload : List Byte) :
    ∃ w, exec .lmReplyEnd (answered s status payload) = .next w ∧ w.port.takes = true ∧ w.params = s.params := by
  have idle : s.port.waitIdle = false := by
    unfold LinePort.takes at takes
    simp_all
  refine ⟨_, rfl, ?_, rfl⟩
  rw [if_pos ⟨rfl, rfl⟩]
  exact congrArg not idle

/-- Settles O36: the checks are those of the table of R128, and a stored value is the one read back. -/
theorem parametersAreStoredAndRead : Obligations.ParametersAreStoredAndRead := by
  refine ⟨fun s i v takes => ⟨exec_setParam_refused takes, fun allowed => ?set⟩,
    fun s i takes => ⟨fun out => ?unknown, fun low high => ?read⟩, fun s i v takes allowed => ?back, Params.defaults_get⟩
  case set =>
    exact ⟨s.params.set i v, s.params.get_set (known_of_paramAllowed allowed) v, exec_setParam_allowed takes allowed⟩
  case unknown =>
    have none : s.params.get i = none := by
      rw [← Option.not_isSome_iff_eq_none, Params.get_isSome_iff]
      omega
    rw [exec_readParam takes, none]
  case read =>
    obtain ⟨v, value⟩ := Option.isSome_iff_exists.mp ((s.params.get_isSome_iff i).mpr ⟨low, high⟩)
    exact ⟨v, value, by rw [exec_readParam takes, value]⟩
  case back =>
    obtain ⟨port, params⟩ := s.paramStored_frame i v
    obtain ⟨w, ended, takes', params'⟩ := exec_lmReplyEnd_answered (port ▸ takes) .done []
    have value : w.params.get i = some v := by
      rw [params', params, Params.get_set _ (known_of_paramAllowed allowed), if_pos rfl]
    exact ⟨_, w, exec_setParam_allowed takes allowed, ended, by rw [exec_readParam takes', value]⟩

end Sys2Proof.Machine
end

section
/-! PROOFS. The limit chain and the name of the limit that governs (R116 to R118), the evaluation as a whole, and the
dispatch cycle that makes it (R111 to R113, R119 to R123). -/

namespace Sys2Proof.Machine

open Sys2Proof.Claims

/-! ### The limits and their names (R116 to R118) -/

/-- The first of five tests that holds decides the name, the fourth with a test of its own beside it. -/
theorem firstName_iff (a b c d e : Prop) [Decidable a] [Decidable b] [Decidable c] [Decidable d] [Decidable e] :
    let name : Governing :=
      if a then .switching else if b then .capacity else if c then .voltage
      else if d then if e then .floor else .demand
      else .request
    (name = .switching ↔ a) ∧ (name = .capacity ↔ ¬ a ∧ b) ∧ (name = .voltage ↔ ¬ a ∧ ¬ b ∧ c) ∧
      (name = .floor ↔ ¬ a ∧ ¬ b ∧ ¬ c ∧ d ∧ e) ∧ (name = .demand ↔ ¬ a ∧ ¬ b ∧ ¬ c ∧ d ∧ ¬ e) ∧
      (name = .request ↔ ¬ a ∧ ¬ b ∧ ¬ c ∧ ¬ d) := by
  intro name
  unfold name
  split_ifs <;> simp [*]

/-- Each name is given where the test that belongs to it holds and the tests before it fail (R118). -/
theorem State.chainLimit_names (s : State) (l : Limits) :
    let switching := s.switching.queue ≠ [] ∧ l.iSw = l.iLim
    let limiting := s.meter.governor.state = .limiting
    (s.chainLimit l = .switching ↔ switching) ∧
    (s.chainLimit l = .capacity ↔ ¬ switching ∧ l.iCap = l.iLim) ∧
    (s.chainLimit l = .voltage ↔ ¬ switching ∧ l.iCap ≠ l.iLim ∧ l.iVlim = l.iLim) ∧
    (s.chainLimit l = .floor ↔ ¬ switching ∧ l.iCap ≠ l.iLim ∧ l.iVlim ≠ l.iLim ∧ limiting ∧ l.floored = l.iLim ∧
      l.iDlim < s.params.iFloor) ∧
    (s.chainLimit l = .demand ↔ ¬ switching ∧ l.iCap ≠ l.iLim ∧ l.iVlim ≠ l.iLim ∧ limiting ∧ l.floored = l.iLim ∧
      s.params.iFloor ≤ l.iDlim) ∧
    (s.chainLimit l = .request ↔ ¬ switching ∧ l.iCap ≠ l.iLim ∧ l.iVlim ≠ l.iLim ∧
      ¬ (limiting ∧ l.floored = l.iLim)) := by
  intro switching limiting
  have names := firstName_iff switching (l.iCap = l.iLim) (l.iVlim = l.iLim) (limiting ∧ l.floored = l.iLim)
    (l.iDlim < s.params.iFloor)
  simp only [not_lt, and_assoc (a := limiting)] at names
  exact names

theorem State.voltageLimit_le (s : State) (k : Nat) : s.voltageLimit k ≤ topCurrent := by
  unfold State.voltageLimit
  split_ifs
  exacts [Nat.zero_le _, le_rfl, min_le_left _ _]

/-- I_lim is the least of the five limits (R117). -/
theorem State.limitsNow_least (s : State) :
    let l := s.limitsNow
    (l.iLim ≤ s.current.target ∧ l.iLim ≤ l.iCap ∧ l.iLim ≤ l.iVlim ∧ l.iLim ≤ l.floored ∧ l.iLim ≤ l.iSw) ∧
      (l.iLim = s.current.target ∨ l.iLim = l.iCap ∨ l.iLim = l.iVlim ∨ l.iLim = l.floored ∨ l.iLim = l.iSw) := by
  simp only [State.limitsNow]
  omega

/-- A lifted limit stands at the top of the currents, so I_cap equals I_lim wherever a lifted limit does (R117, R118). -/
theorem State.iCap_of_lifted (s : State) (lifted : topCurrent ≤ s.limitsNow.iLim) :
    s.limitsNow.iCap = s.limitsNow.iLim := by
  obtain ⟨⟨-, least, -⟩, -⟩ := s.limitsNow_least
  have top : s.limitsNow.iCap ≤ topCurrent := min_le_left _ _
  omega

/-- Where no other limit is named, I_lim is the target (R118). -/
theorem State.target_of_request {s : State} (off : s.meter.governor.state = .off → s.meter.governor.iDlim = topCurrent)
    (request : s.chainLimit s.limitsNow = .request) : s.current.target = s.limitsNow.iLim := by
  obtain ⟨-, -, -, -, -, named⟩ := s.chainLimit_names s.limitsNow
  obtain ⟨switching, cap, voltage, limiting⟩ := named.mp request
  obtain ⟨-, target | cap' | voltage' | floored | iSw⟩ := s.limitsNow_least
  · exact target.symm
  · exact absurd cap'.symm cap
  · exact absurd voltage'.symm voltage
  · refine absurd (s.iCap_of_lifted ?_) cap
    have state : s.meter.governor.state = .off := by
      cases state : s.meter.governor.state with
      | off => rfl
      | limiting => exact absurd ⟨state, floored.symm⟩ limiting
    rw [floored, ← off state]
    exact le_max_left _ _
  · refine absurd (s.iCap_of_lifted ?_) cap
    have empty : s.switching.queue = [] := not_not.mp fun waiting => switching ⟨waiting, iSw.symm⟩
    rw [iSw]
    exact (if_pos empty).ge

/-- Settles O30: the limits are read off, I_lim is their least, and the names stand in the order of R118. -/
theorem chainLimitNamesFirstEqual : Obligations.ChainLimitNamesFirstEqual := by
  intro s off l
  obtain ⟨⟨target, cap, voltage, floored, switching⟩, one⟩ := s.limitsNow_least
  obtain ⟨isSwitching, isCapacity, isVoltage, isFloor, isDemand, isRequest⟩ := s.chainLimit_names l
  exact ⟨rfl, rfl, rfl, rfl, rfl, target, cap, voltage, floored, switching, one, isSwitching, isCapacity, isVoltage, isFloor,
    isDemand, isRequest, State.target_of_request off⟩

end Sys2Proof.Machine
end

section
/-! PROOFS. An evaluation as a whole, and the dispatch cycle that makes one (R48, R70, R111 to R113, R119 to R123). -/

namespace Sys2Proof.Machine

open Sys2Proof.Claims

variable {s : State}

/-! ### An evaluation as a whole (R111 to R113, R119) -/

/-- What an evaluation raises (R119). -/
theorem State.evaluate_attention (s : State) (cycle : Bool) :
    (s.evaluate cycle).attention =
      if (s.evaluate cycle).current.governing = .voltage ∧ s.current.governing ≠ .voltage then
        (s.raise .voltageLimit 0).attention
      else s.attention := by
  have splits : ∀ v : State, v.splitInMode.attention = v.attention := fun v => by
    rcases v.splitInMode_cases with h | h <;> rw [h]
    rfl
  rw [State.evaluate_current]
  unfold State.evaluate
  dsimp only
  rw [splits, State.noteVoltage, apply_ite State.attention]
  rfl

/-- What an evaluation can write (R112). -/
theorem State.evaluate_frame (s : State) (cycle : Bool) :
    s.evaluate cycle = { s with
      units := (s.evaluate cycle).units, attention := (s.evaluate cycle).attention
      current := { s.current with
        setpoint := (s.evaluate cycle).current.setpoint, governing := (s.evaluate cycle).current.governing
        limits := (s.evaluate cycle).current.limits } } := by
  obtain ⟨pots, quench⟩ := State.evaluate_tables s cycle
  have frame := (State.evaluate_links s cycle).frame
  rwa [pots, quench] at frame

/-! ### The dispatch cycle (R48, R70, R112) -/

theorem State.compareHead_eq (s : State) : s.compareHead = headCompared s := by
  unfold State.compareHead State.switchHead headCompared
  cases s.switching.queue with
  | nil => rfl
  | cons p rest =>
    dsimp only
    cases (s.pot p).switch <;> rfl

/-- The comparison of the head writes no AE state and no slot (R70). -/
theorem State.compareHead_effect (s : State) (q : Nat) :
    (s.compareHead.pot q).ae = (s.pot q).ae ∧ (s.compareHead.pot q).slot = (s.pot q).slot := by
  unfold State.compareHead
  split
  · next p w _ =>
    split
    · by_cases same : q = p
      · subst same
        by_cases known : isPosition q = true
        · rw [State.pot_putPot_same _ _ _ known]
          exact ⟨rfl, rfl⟩
        · rw [State.pot_outside _ q known, State.pot_outside _ q known]
          exact ⟨rfl, rfl⟩
      · rw [State.pot_putPot_other _ _ _ _ same]
        exact ⟨rfl, rfl⟩
    · exact ⟨rfl, rfl⟩
  · exact ⟨rfl, rfl⟩

/-- The pot has been granted a slot: what the grants of a cycle leave of it. -/
structure State.Granted (s : State) (p k now : Nat) : Prop where
  effect : (s.pot p).ae = .quenching
  slot : (s.pot p).slot = some k
  held : State.slot s k = some ⟨p, now⟩
  absent : p ∉ s.quench.queue

theorem State.Granted.of_tables {t : State} {p k now : Nat} (granted : s.Granted p k now) (pots : t.pots = s.pots)
    (quench : t.quench = s.quench) : t.Granted p k now := by
  obtain ⟨effect, slot, held, absent⟩ := granted
  refine ⟨?_, ?_, ?_, quench ▸ absent⟩
  · rwa [State.pot_congr pots]
  · rwa [State.pot_congr pots]
  · rwa [State.slot_congr quench]

/-- A head that passes the test has been granted the lowest-numbered FREE slot after a grant evaluation (R48 to R50). -/
theorem State.grantEvaluation_granted {p k : Nat} {rest : List Nat} (known : 1 ≤ p ∧ p ≤ 384) (number : 1 ≤ k ∧ k ≤ 4)
    (queue : s.quench.queue = p :: rest) (absent : p ∉ rest) (free : s.slot k = none)
    (lowest : ∀ j ∈ [1, 2, 3, 4], j < k → s.slot j ≠ none) (passes : s.grantTest = true) :
    s.grantEvaluation.Granted p k s.now := by
  obtain ⟨record, held, left⟩ := grantEvaluationServesTheHead.2.1 s p k rest known.1 known.2 number.1 number.2 queue absent
    free lowest (s.grantTest_iff.mp passes)
  exact ⟨by rw [record], by rw [record], held, left⟩

theorem State.cycleWork_granted {p k : Nat} {rest : List Nat} (known : 1 ≤ p ∧ p ≤ 384) (number : 1 ≤ k ∧ k ≤ 4)
    (queue : s.quench.queue = p :: rest) (absent : p ∉ rest) (free : s.slot k = none)
    (lowest : ∀ j ∈ [1, 2, 3, 4], j < k → s.slot j ≠ none) (passes : s.grantTest = true) (arbiterFirst : Bool) :
    (s.cycleWork arbiterFirst).Granted p k s.now := by
  cases arbiterFirst with
  | true =>
    obtain ⟨pots, quench⟩ := State.evaluate_tables s.grantEvaluation true
    exact (State.grantEvaluation_granted known number queue absent free lowest passes).of_tables pots quench
  | false =>
    have alike := State.evaluate_alike s true
    have slots : ∀ j, (s.evaluate true).slot j = s.slot j := State.slot_congr alike.quench
    have now : (s.evaluate true).now = s.now := (State.evaluate_links s true).now
    rw [← now]
    refine State.grantEvaluation_granted known number ((congrArg _ alike.quench).trans queue) absent
      ((slots k).trans free) (fun j member below => ?_) (alike.grantTest.trans passes)
    rw [slots]
    exact lowest j member below

/-- The divider that a cycle advances is nothing that an evaluation reads (R133). -/
theorem State.dividerAdvanced_evaluate (s : State) (cycle : Bool) :
    s.dividerAdvanced.evaluate cycle = (s.evaluate cycle).dividerAdvanced := by
  have current : (s.dividerAdvanced.evaluate cycle).current = (s.evaluate cycle).current := by
    rw [State.evaluate_current, State.evaluate_current]
    rfl
  have units : (s.dividerAdvanced.evaluate cycle).units = (s.evaluate cycle).units := by
    rw [State.evaluate_units, State.evaluate_units, current]
    rfl
  have attention : (s.dividerAdvanced.evaluate cycle).attention = (s.evaluate cycle).attention := by
    rw [State.evaluate_attention, State.evaluate_attention, current]
    rfl
  rw [State.evaluate_frame s.dividerAdvanced, State.evaluate_frame s, units, attention, current]
  rfl

/-- A cycle that can grant nothing is the Dispatcher's own evaluation and the comparison of the head. -/
theorem State.cycle_idle (idle : s.GrantsNothing) (arbiterFirst : Bool) :
    (s.dividerAdvanced.cycleWork arbiterFirst).compareHead = (s.evaluate true).dividerAdvanced.compareHead := by
  have idle' : s.dividerAdvanced.GrantsNothing := idle
  rw [State.cycleWork_idle idle', State.dividerAdvanced_evaluate]

/-- Settles O31: the evaluation field by field, and the cycle by whether its grant evaluation grants. -/
theorem evaluationMovesSetpoint : Obligations.EvaluationMovesSetpoint := by
  refine ⟨fun _ => rfl, fun s cycle => ?evaluation, fun s arbiterFirst => ?cycle,
    fun s arbiterFirst p k rest first last low high queue absent free lowest test => ?grants,
    fun s arbiterFirst none => ?idle⟩
  case evaluation =>
    intro t l sp candidate
    have current : t.current = _ := State.evaluate_current s cycle
    have frame : t = _ := State.evaluate_frame s cycle
    refine ⟨by rw [current], fun adopt => ⟨?_, ?_, State.evaluate_units_adopt adopt cycle⟩, fun run => ⟨?_, ?_⟩,
      fun hold => ⟨?_, ?_⟩, State.evaluate_attention s cycle, frame⟩
    all_goals rw [current]
    · simp only [State.moved, adopt]
    · simp only [State.moved, adopt]
    · simp only [State.moved, run]
      rfl
    · simp only [State.moved, run]
      rfl
    · simp only [State.moved, hold]
      rfl
    · simp only [State.moved, hold]
  case cycle =>
    exact congrArg Host.Outcome.next (s.dividerAdvanced.cycleWork arbiterFirst).compareHead_eq
  case grants =>
    have granted := State.cycleWork_granted (s := s.dividerAdvanced) ⟨first, last⟩ ⟨low, high⟩ queue absent free lowest
      (s.grantTest_iff.mpr test) arbiterFirst
    obtain ⟨effect, slot⟩ := (s.dividerAdvanced.cycleWork arbiterFirst).compareHead_effect p
    refine ⟨_, rfl, effect.trans granted.effect, slot.trans granted.slot, ?_, ?_⟩
    · rw [State.compareHead_frame]
      exact granted.held
    · rw [State.compareHead_frame]
      exact granted.absent
  case idle =>
    obtain ⟨pots, quench⟩ := State.evaluate_tables s true
    have links := State.evaluate_links s true
    have whole := State.cycle_idle ((State.grantsNothing_iff s).mpr none) arbiterFirst
    have sums := PotRegister.sums_of_line (State.compareHead_line (s.evaluate true).dividerAdvanced)
    rw [State.dividerAdvanced_pots, pots] at sums
    refine ⟨_, congrArg Host.Outcome.next whole, ?_, ?_, ?_, ?_, ?_, ?_, sums⟩
    all_goals rw [State.compareHead_frame]
    · rfl
    · rfl
    · rfl
    · exact quench
    · exact links.switching
    · rw [State.dividerAdvanced_meter, links.meter]

end Sys2Proof.Machine
end

section
/-! PROOFS. The Demand Meter (chapter 7): what the steps of a metering tick and the close of an interval do to the state (R134
to R147, R151 to R154, R157, R158, R168). -/

namespace Sys2Proof.Machine

open Sys2Proof.Claims

variable {s : State}

/-! ### Steps 1 to 6 of a tick (R135 to R141, R157) -/

/-- The next advance of the line-seconds value reaches the end stamp of the curtailment (R157). -/
theorem State.curtailmentEndsNext_iff (s : State) : s.curtailmentEndsNext = true ↔
    s.meter.curtailment.map Curtailment.endStamp = some ((s.meter.lineSeconds + 1) % 4294967296) := by
  unfold State.curtailmentEndsNext
  cases s.meter.curtailment with
  | none => simp
  | some c =>
    simp only [beq_iff_eq, Option.map_some, Option.some.injEq]
    rfl

theorem State.rollsOver_iff (s : State) : s.rollsOver = true ↔ 86400 ≤ s.meter.timeOfDay + 1 :=
  decide_eq_true_iff

theorem State.closesNext_iff (s : State) :
    s.closesNext = true ↔ s.meter.interval.elapsed + 1 = s.meter.interval.planned :=
  beq_iff_eq

/-- The state after steps 1 to 6 of a tick. -/
def State.secondMetered (s : State) (shed : Bool) : State :=
  (s.advanced.metered shed).calendarMoved

/-- The Demand Meter after steps 1 to 6 of a tick, field by field. -/
def State.secondMeter (s : State) (shed : Bool) : DemandMeter :=
  { s.meter with
    lineSeconds := s.nextSecond, atAdvance := s.params, shed := shed, vLine := s.lineVoltage, power := s.linePower
    curtailment := if s.curtailmentEndsNext then none else s.meter.curtailment
    interval := { s.meter.interval with
      energy := s.meter.interval.energy + s.linePower, elapsed := s.meter.interval.elapsed + 1 }
    period := { s.meter.period with
      bands := tput s.meter.period.bands s.meter.interval.band
        ((s.meter.period.band s.meter.interval.band).credited s.linePower) }
    timeOfDay := if s.rollsOver then 0 else s.meter.timeOfDay + 1
    dayOfWeek := if s.rollsOver then (s.meter.dayOfWeek + 1) % 7 else s.meter.dayOfWeek
    dayCount := if s.rollsOver then (s.meter.dayCount + 1) % 65536 else s.meter.dayCount }

theorem DemandMeter.curtailmentExpired_eq (m : DemandMeter) : m.curtailmentExpired = { m with
    curtailment := if m.curtailment.map Curtailment.endStamp = some m.lineSeconds then none else m.curtailment } := by
  unfold DemandMeter.curtailmentExpired
  cases curtailed : m.curtailment with
  | none => simp [← curtailed]
  | some c =>
    simp only [Option.map_some, Option.some.injEq]
    split
    · rfl
    · rw [← curtailed]

theorem State.metered_eq (s : State) (shed : Bool) : s.advanced.metered shed = s.withMeter
    { s.secondMeter shed with
      timeOfDay := s.meter.timeOfDay, dayOfWeek := s.meter.dayOfWeek, dayCount := s.meter.dayCount } := by
  unfold State.metered State.secondMeter
  rw [DemandMeter.curtailmentExpired_eq, if_congr s.curtailmentEndsNext_iff rfl rfl]
  rfl

/-- Steps 1 to 6 write the Demand Meter, and at a rollover the daily counts of the pot records. -/
theorem State.secondMetered_eq (s : State) (shed : Bool) : s.secondMetered shed = { s with
    pots := if s.rollsOver then s.clearDailyCounts.pots else s.pots, meter := s.secondMeter shed } := by
  have rolls : (s.advanced.metered shed).rollsOver = s.rollsOver := by
    rw [State.metered_eq]
    rfl
  unfold State.secondMetered State.calendarMoved
  rw [rolls, State.metered_eq]
  unfold State.secondMeter
  split <;> rfl

/-! ### The close of an interval (R139, R142 to R147, R168) -/

theorem PeriodFigures.closing_eq (f : PeriodFigures) (demand : Nat) (counted : Bool) (day time : Nat) :
    f.closing demand counted day time = closedInto f demand counted day time := by
  unfold PeriodFigures.closing closedInto saturate
  cases counted with
  | false => rfl
  | true =>
    by_cases higher : f.maximum < demand <;> simp [higher]

/-- The period figures once the interval in progress is closed into them (R144). -/
def State.figuresClosed (s : State) (duration : Nat) : PeriodFigures :=
  closedInto s.meter.period (intervalDemand s.meter.interval.energy duration) (s.counts duration) s.meter.dayCount
    s.meter.timeOfDay

/-- The steps of a close that SET CLOCK and a tick share: the interval is recorded, and a pending period close applied. -/
theorem State.closed_eq (s : State) (duration : Nat) : (s.intervalClosed duration).periodClosed = { s with
    meter := { s.meter with
      previous := ⟨intervalDemand s.meter.interval.energy duration, duration, s.meter.interval.band, s.counts duration⟩
      period := if s.meter.pendingClose then PeriodFigures.empty else s.figuresClosed duration
      closed :=
        if s.meter.pendingClose then ⟨s.figuresClosed duration, s.meter.dayCount, s.meter.timeOfDay⟩
        else s.meter.closed
      pendingClose := false }
    tariff := { s.tariff with locked := s.tariff.locked && !s.meter.pendingClose }
    attention := (s.raise .intervalClosed 0).attention } := by
  unfold State.periodClosed State.figuresClosed
  rw [← PeriodFigures.closing_eq]
  change (if s.meter.pendingClose = true then _ else _) = _
  cases pending : s.meter.pendingClose with
  | true =>
    rw [Bool.not_true, Bool.and_false]
    rfl
  | false =>
    rw [Bool.not_false, Bool.and_true]
    exact congrArg (fun p => { s.intervalClosed duration with
      meter := { (s.intervalClosed duration).meter with pendingClose := p } }) pending

/-- The interval that begins under a table at a time of day (R139, R163). -/
def TariffTable.intervalFrom (table : TariffTable) (time day : Nat) : Interval where
  start := time
  planned := table.length - time % table.length
  elapsed := 0
  energy := 0
  band := table.bandAt time day
  limit := table.limitOf (table.bandAt time day)

theorem intervalDemand_eq (energy duration : Nat) : intervalDemand energy duration = energy / duration := by
  unfold intervalDemand
  split
  · next zero => rw [zero, Nat.div_zero]
  · rfl

/-- The application of a staged table writes the two tables only (R168). -/
theorem TariffStore.applied_frame (t : TariffStore) (time : Nat) :
    t.applied time = { t with active := (t.applied time).active, staged := (t.applied time).staged } := by
  unfold TariffStore.applied
  split
  · split <;> rfl
  · rfl

theorem TariffStore.applied_suits {t : TariffStore} {table : TariffTable} {time : Nat} (staged : t.staged = some table)
    (suits : time % t.active.length = 0 ∧ time % table.length = 0) :
    t.applied time = { t with active := table, staged := none } := by
  unfold TariffStore.applied
  rw [staged]
  exact if_pos suits

theorem TariffStore.applied_early {t : TariffStore} {table : TariffTable} {time : Nat} (staged : t.staged = some table)
    (early : ¬ (time % t.active.length = 0 ∧ time % table.length = 0)) : t.applied time = t := by
  unfold TariffStore.applied
  rw [staged]
  exact if_neg early

theorem TariffStore.applied_none {t : TariffStore} (staged : t.staged = none) (time : Nat) : t.applied time = t := by
  unfold TariffStore.applied
  rw [staged]

/-! ### Step 7 of a tick (R136) -/

/-- The Tariff Store after a close: a period close ends the lock (R147). -/
def State.storeClosed (s : State) : TariffStore :=
  { s.tariff with locked := s.tariff.locked && !s.meter.pendingClose }

/-- The Tariff Store after a close by a tick (R147, R168). -/
def State.tariffAfterClose (s : State) (shed : Bool) : TariffStore :=
  s.storeClosed.applied (s.secondMeter shed).timeOfDay

/-- The whole of a tick that closes the interval. -/
theorem State.tick_closing (closes : s.meter.interval.elapsed + 1 = s.meter.interval.planned) (shed : Bool) :
    let u := s.secondMetered shed
    s.tick shed = { u with
      meter := { s.secondMeter shed with
        interval :=
          (s.tariffAfterClose shed).active.intervalFrom (s.secondMeter shed).timeOfDay (s.secondMeter shed).dayOfWeek
        previous :=
          ⟨intervalDemand (s.secondMeter shed).interval.energy s.meter.interval.planned, s.meter.interval.planned,
            s.meter.interval.band, s.counts s.meter.interval.planned⟩
        period := if s.meter.pendingClose then PeriodFigures.empty else u.figuresClosed s.meter.interval.planned
        closed :=
          if s.meter.pendingClose then
            ⟨u.figuresClosed s.meter.interval.planned, (s.secondMeter shed).dayCount, (s.secondMeter shed).timeOfDay⟩
          else s.meter.closed
        pendingClose := false }
      tariff := s.tariffAfterClose shed
      attention := (s.raise .intervalClosed 0).attention } := by
  intro u
  have step7 : s.tick shed = u.closeByTick := if_pos (by rw [← State.secondMetered, State.secondMetered_eq]; exact closes)
  rw [step7, State.closeByTick, State.closed_eq]
  unfold u
  rw [State.secondMetered_eq]
  rfl

/-- A projection writes the governor, and raises where it moves from OFF to LIMITING (R152, R154). -/
theorem State.project_eq (s : State) :
    let g := s.meter.governed s.demandLimit
    s.project = { s with
      meter := { s.meter with governor := g }
      attention :=
        if s.meter.governor.state = .off ∧ g.state = .limiting then (s.raise .demandLimiting 0).attention
        else s.attention } := by
  unfold State.project
  dsimp only
  split <;> rfl

/-- The whole of a tick that does not close the interval. -/
theorem State.tick_projecting (goesOn : s.meter.interval.elapsed + 1 ≠ s.meter.interval.planned) (shed : Bool) :
    let u := s.secondMetered shed
    let g := (s.secondMeter shed).governed u.demandLimit
    s.tick shed = { u with
      meter := { s.secondMeter shed with governor := g }
      attention :=
        if s.meter.governor.state = .off ∧ g.state = .limiting then (s.raise .demandLimiting 0).attention
        else s.attention } := by
  intro u g
  have step7 : s.tick shed = u.project := if_neg (by rw [← State.secondMetered, State.secondMetered_eq]; exact goesOn)
  rw [step7, State.project_eq]
  unfold g u
  rw [State.secondMetered_eq]
  rfl

/-- What every tick leaves as it was. -/
theorem State.tick_frame (s : State) (shed : Bool) : s.tick shed = { s with
    pots := if s.rollsOver then s.clearDailyCounts.pots else s.pots
    meter := { s.secondMeter shed with
      interval := (s.tick shed).meter.interval, previous := (s.tick shed).meter.previous
      period := (s.tick shed).meter.period, closed := (s.tick shed).meter.closed
      pendingClose := (s.tick shed).meter.pendingClose, governor := (s.tick shed).meter.governor }
    tariff := (s.tick shed).tariff, attention := (s.tick shed).attention } := by
  by_cases closes : s.meter.interval.elapsed + 1 = s.meter.interval.planned
  · rw [State.tick_closing closes, State.secondMetered_eq]
  · rw [State.tick_projecting closes, State.secondMetered_eq]

end Sys2Proof.Machine
end

section
/-! PROOFS. The statements about the metering tick, its projection, its day rollover and its close, about SET CLOCK, and about
the curtailment and the period (R134 to R158). -/

namespace Sys2Proof.Machine

open Sys2Proof.Claims

variable {s : State}

/-! ### What a tick meters (R134 to R141) -/

/-- The figures of the period in which the second of a tick is counted: those of the closed-period record where the tick
applied a period close (R147). -/
def State.figuresOfTick (s : State) (shed : Bool) : PeriodFigures :=
  if s.meter.interval.elapsed + 1 = s.meter.interval.planned ∧ s.meter.pendingClose = true then
    (s.tick shed).meter.closed.figures
  else (s.tick shed).meter.period

/-- A close counts its interval and leaves the energies of the bands (R144). -/
theorem State.figuresOfTick_closing (closes : s.meter.interval.elapsed + 1 = s.meter.interval.planned) (shed : Bool) :
    s.figuresOfTick shed = (s.secondMetered shed).figuresClosed s.meter.interval.planned := by
  unfold State.figuresOfTick
  rw [State.tick_closing closes]
  by_cases pending : s.meter.pendingClose = true
  · rw [if_pos ⟨closes, pending⟩]
    exact congrArg ClosedPeriod.figures (if_pos pending)
  · rw [if_neg fun both => pending both.2]
    exact if_neg pending

theorem State.figuresOfTick_bands (s : State) (shed : Bool) :
    (s.figuresOfTick shed).bands = (s.secondMeter shed).period.bands := by
  by_cases closes : s.meter.interval.elapsed + 1 = s.meter.interval.planned
  · rw [State.figuresOfTick_closing closes, State.secondMetered_eq]
    rfl
  · unfold State.figuresOfTick
    rw [if_neg fun both => closes both.1, State.tick_projecting closes]

/-- The power of the second is credited to the band of the interval, and to no other (R141). -/
theorem State.figuresOfTick_band (s : State) (shed : Bool) (b : Nat) (low : 1 ≤ b) (high : b ≤ 4) :
    (s.figuresOfTick shed).band b =
      if b = s.meter.interval.band then (s.meter.period.band b).credited s.linePower else s.meter.period.band b := by
  unfold PeriodFigures.band
  rw [State.figuresOfTick_bands]
  refine (tget_tput s.meter.period.bands s.meter.interval.band b ⟨0, 0⟩ _ low high).trans ?_
  by_cases same : b = s.meter.interval.band
  · rw [if_pos same.symm, if_pos same, ← same]
    rfl
  · rw [if_neg (Ne.symm same), if_neg same]

/-- The calendar after a tick, on a day that goes on (R135). -/
theorem State.tick_sameDay (shed : Bool) (goesOn : s.meter.timeOfDay + 1 < 86400) :
    (s.tick shed).meter.timeOfDay = s.meter.timeOfDay + 1 ∧ (s.tick shed).meter.dayOfWeek = s.meter.dayOfWeek ∧
      (s.tick shed).meter.dayCount = s.meter.dayCount ∧ (s.tick shed).pots = s.pots := by
  have stays : ¬ s.rollsOver = true := by
    rw [State.rollsOver_iff]
    omega
  rw [State.tick_frame]
  exact ⟨if_neg stays, if_neg stays, if_neg stays, if_neg stays⟩

/-- The calendar after a tick that is a day rollover (R41, R135). -/
theorem State.tick_rollover (shed : Bool) (rolls : 86400 ≤ s.meter.timeOfDay + 1) :
    (s.tick shed).meter.timeOfDay = 0 ∧ (s.tick shed).meter.dayOfWeek = (s.meter.dayOfWeek + 1) % 7 ∧
      (s.tick shed).meter.dayCount = (s.meter.dayCount + 1) % 65536 ∧ (s.tick shed).pots = s.clearDailyCounts.pots := by
  have moves : s.rollsOver = true := s.rollsOver_iff.mpr rolls
  rw [State.tick_frame]
  exact ⟨if_pos moves, if_pos moves, if_pos moves, if_pos moves⟩

/-- The parts of the block that no tick reaches. -/
theorem State.tick_others (s : State) (shed : Bool) :
    (s.tick shed).current = s.current ∧ (s.tick shed).units = s.units ∧ (s.tick shed).quench = s.quench ∧
      (s.tick shed).switching = s.switching ∧ (s.tick shed).field = s.field ∧ (s.tick shed).port = s.port := by
  rw [State.tick_frame]
  exact ⟨rfl, rfl, rfl, rfl, rfl, rfl⟩

/-- The fields of the Demand Meter that steps 1 to 4 of a tick write, and the divider, which stays (R134, R137, R138, R157,
R158). -/
theorem State.tick_meter (s : State) (shed : Bool) :
    let m := (s.tick shed).meter
    m.lineSeconds = (s.meter.lineSeconds + 1) % 4294967296 ∧ m.vLine = s.lineVoltage ∧ m.power = s.linePower ∧
      m.shed = shed ∧ m.curtailment = (if s.curtailmentEndsNext then none else s.meter.curtailment) ∧
      m.atAdvance = s.params ∧ m.divider = s.meter.divider := by
  rw [State.tick_frame]
  exact ⟨rfl, rfl, rfl, rfl, rfl, rfl, rfl⟩

/-- What a tick that does not close the interval leaves of the Demand Meter and the Tariff Store. -/
theorem State.tick_goesOn (shed : Bool) (goesOn : s.meter.interval.elapsed + 1 ≠ s.meter.interval.planned) :
    (s.tick shed).meter.interval = { s.meter.interval with
        energy := s.meter.interval.energy + s.linePower, elapsed := s.meter.interval.elapsed + 1 } ∧
      (s.tick shed).meter.previous = s.meter.previous ∧ (s.tick shed).meter.closed = s.meter.closed ∧
      (s.tick shed).meter.pendingClose = s.meter.pendingClose ∧ (s.tick shed).tariff = s.tariff := by
  rw [State.tick_projecting goesOn, State.secondMetered_eq]
  exact ⟨rfl, rfl, rfl, rfl, rfl⟩

/-- Settles O37: steps 1 to 6 of the tick, read off field by field, whatever step 7 does. -/
theorem tickMetersTheSecond : Obligations.TickMetersTheSecond := by
  intro s shed vLine power band
  obtain ⟨current, units, quench, switching, field, port⟩ := s.tick_others shed
  obtain ⟨now, voltage, linePower, sampled, curtailment, atAdvance, divider⟩ := s.tick_meter shed
  refine ⟨s.tick shed, rfl, now, voltage, linePower, sampled, s.figuresOfTick_band shed,
    curtailment.trans (if_congr s.curtailmentEndsNext_iff rfl rfl), State.tick_sameDay shed, fun rolls => ?_,
    State.tick_goesOn shed, atAdvance, divider, current, units, quench, switching, field, port⟩
  obtain ⟨time, day, count, -⟩ := State.tick_rollover shed rolls
  exact ⟨time, day, count⟩

/-! ### The projection (R151 to R154) -/

/-- The governor moves to LIMITING exactly where the projection is above its limit (R153, R154). -/
theorem DemandMeter.governed_limiting_iff (m : DemandMeter) (dLim : Nat) :
    (m.governed dLim).state = .limiting ↔ dLim < m.projected := by
  unfold DemandMeter.governed
  split
  · next within => simp [within]
  · next above => simpa using above

theorem DemandMeter.governed_eq (m : DemandMeter) (dLim : Nat) : m.governed dLim =
    if m.projected ≤ dLim then ⟨.off, m.projected, dLim, 65535⟩
    else if m.allowedEnergy dLim ≤ 0 then ⟨.limiting, m.projected, dLim, 0⟩
    else if m.vLine = 0 then ⟨.limiting, m.projected, dLim, 65535⟩
    else ⟨.limiting, m.projected, dLim,
      min 65535 ((m.allowedEnergy dLim).toNat / m.interval.remaining * 100000 / m.vLine)⟩ := by
  unfold DemandMeter.governed DemandMeter.limitedCurrent
  rw [apply_ite (Governor.mk _ _ _), apply_ite (Governor.mk _ _ _)]

/-- D_lim at a tick reads the meter after its steps 1 to 6 (R151). -/
theorem State.secondMetered_demandLimit (s : State) (shed : Bool) :
    (s.secondMetered shed).demandLimit =
      (let m := s.secondMeter shed
      let curtailed := match m.curtailment with
        | some c => min m.interval.limit c.limit
        | none => m.interval.limit
      if shed then min curtailed s.params.shedLimit else curtailed) := by
  rw [State.secondMetered_eq]
  rfl

/-- Settles O38: the tick that does not close ends with the projection of the interval in progress. -/
theorem tickProjectsTheInterval : Obligations.TickProjectsTheInterval := by
  intro s shed goesOn
  refine ⟨s.tick shed, rfl, ?_⟩
  rw [State.tick_projecting goesOn.ne]
  simp only [State.secondMetered_demandLimit, DemandMeter.governed_limiting_iff]
  exact ⟨DemandMeter.governed_eq _ _, rfl⟩

/-! ### The day rollover and the close (R135, R139, R142 to R147) -/

/-- Settles O39: the command is the tick at which the rollover is due. -/
theorem dayRolloverClearsDailyCounts : Obligations.DayRolloverClearsDailyCounts := by
  intro s shed
  refine ⟨fun goesOn => ?none, fun rolls => ?due⟩
  case none =>
    refine congrArg Host.Outcome.next (if_neg ?_)
    rw [State.rollsOver_iff]
    omega
  case due =>
    obtain ⟨time, day, count, pots⟩ := State.tick_rollover shed rolls
    obtain ⟨current, units, quench, switching, field, port⟩ := s.tick_others shed
    refine ⟨s.tick shed, congrArg Host.Outcome.next (if_pos (s.rollsOver_iff.mpr rolls)), rfl, time, day, count,
      fun p _ _ => ?_, ?_, ?_, ?_, ?_, current, units, quench, switching, field, port⟩
    · rw [State.pot_congr pots]
      exact tget_mapIdx_const (fun r : PotRecord => { r with aeCount := 0, aeSeconds := 0 }) PotRecord.empty
        s.pots.table p rfl
    all_goals rw [pots]; rfl

/-- The band and the limit of an interval that begins are those of the last change point in effect (R163). -/
theorem TariffTable.inForce_bandAt (table : TariffTable) (time day : Nat) :
    inForce table time day (table.bandAt time day) (table.limitOf (table.bandAt time day)) := by
  intro front back c points reached later
  have band : table.bandAt time day = c.band := table.bandAt_last time day front back c points reached later
  refine ⟨band, fun k named l limit => ?_⟩
  rw [band, named]
  exact table.limitOf_of_get k l limit

/-- What a close does to the figures of the period (R144). -/
theorem closedInto_counts (f : PeriodFigures) (demand : Nat) (counted : Bool) (day time : Nat) :
    let figures := closedInto f demand counted day time
    figures.counted = (if counted then min (f.counted + 1) 65535 else f.counted) ∧
      figures.uncounted = (if counted then f.uncounted else min (f.uncounted + 1) 65535) ∧
      (figures.maximum, figures.maximumDay, figures.maximumTime) =
        if counted = true ∧ f.maximum < demand then (demand, day, time)
        else (f.maximum, f.maximumDay, f.maximumTime) := by
  refine ⟨rfl, rfl, ?_⟩
  by_cases highest : counted = true ∧ f.maximum < demand <;> simp [closedInto, highest]

/-- The figures of the period after the close of an interval by a tick, at its end's day count and time of day (R144). -/
theorem State.figuresOfTick_closedInto (closes : s.meter.interval.elapsed + 1 = s.meter.interval.planned) (shed : Bool) :
    s.figuresOfTick shed = closedInto (s.secondMeter shed).period
      ((s.meter.interval.energy + s.linePower) / s.meter.interval.planned) (s.counts s.meter.interval.planned)
      (s.tick shed).meter.dayCount (s.tick shed).meter.timeOfDay := by
  rw [State.figuresOfTick_closing closes, State.tick_frame, State.secondMetered_eq, State.figuresClosed, intervalDemand_eq]
  rfl

/-- The records of a close by a tick, and the interval that begins (R139, R143, R147, R153). -/
theorem State.tick_closed (closes : s.meter.interval.elapsed + 1 = s.meter.interval.planned) (shed : Bool) :
    let m := (s.tick shed).meter
    m.previous =
        ⟨(s.meter.interval.energy + s.linePower) / s.meter.interval.planned, s.meter.interval.planned,
          s.meter.interval.band, s.counts s.meter.interval.planned⟩ ∧
      (s.meter.pendingClose = true → m.period = PeriodFigures.empty ∧ m.closed.closeDay = m.dayCount ∧
        m.closed.closeTime = m.timeOfDay) ∧
      (s.meter.pendingClose = false → m.closed = s.meter.closed) ∧
      m.interval = (s.tick shed).tariff.active.intervalFrom m.timeOfDay m.dayOfWeek ∧ m.pendingClose = false ∧
      m.governor = s.meter.governor ∧ (s.tick shed).attention = (s.raise .intervalClosed 0).attention := by
  rw [State.tick_closing closes, intervalDemand_eq]
  refine ⟨rfl, fun pending => ?_, fun still => ?_, rfl, rfl, rfl, rfl⟩
  · dsimp only
    simp only [if_pos pending, and_self]
  · exact if_neg (ne_true_of_eq_false still)

/-- The Tariff Store after a close by a tick: the staged table takes effect where the boundary suits it (R147, R168). -/
theorem State.tick_tariff (closes : s.meter.interval.elapsed + 1 = s.meter.interval.planned) (shed : Bool) :
    let t := s.tick shed
    t.tariff.load = s.tariff.load ∧ t.tariff.locked = (s.tariff.locked && !s.meter.pendingClose) ∧
      (s.tariff.staged = none → t.tariff.active = s.tariff.active ∧ t.tariff.staged = none) ∧
      (∀ table, s.tariff.staged = some table →
        t.meter.timeOfDay % s.tariff.active.length = 0 ∧ t.meter.timeOfDay % table.length = 0 →
        t.tariff.active = table ∧ t.tariff.staged = none) ∧
      (∀ table, s.tariff.staged = some table →
        ¬ (t.meter.timeOfDay % s.tariff.active.length = 0 ∧ t.meter.timeOfDay % table.length = 0) →
        t.tariff.active = s.tariff.active ∧ t.tariff.staged = some table) := by
  rw [State.tick_closing closes]
  dsimp only [State.tariffAfterClose]
  refine ⟨?_, ?_, fun unstaged => ?_, fun table staged suits => ?_, fun table staged early => ?_⟩
  · rw [TariffStore.applied_frame]
    rfl
  · rw [TariffStore.applied_frame]
    rfl
  · rw [TariffStore.applied_none (t := s.storeClosed) unstaged]
    exact ⟨rfl, unstaged⟩
  · rw [TariffStore.applied_suits (t := s.storeClosed) staged suits]
    exact ⟨rfl, rfl⟩
  · rw [TariffStore.applied_early (t := s.storeClosed) staged early]
    exact ⟨rfl, staged⟩

/-- Settles O40: the closing tick, its records, its tariff and the interval that begins. -/
theorem intervalCloseRecordsDemand : Obligations.IntervalCloseRecordsDemand := by
  intro s shed
  refine ⟨fun goesOn => congrArg Host.Outcome.next (if_neg (s.closesNext_iff.not.mpr goesOn)), fun closes => ?_⟩
  refine ⟨s.tick shed, congrArg Host.Outcome.next (if_pos (s.closesNext_iff.mpr closes)), rfl, ?_⟩
  intro i demand counted figures
  obtain ⟨current, units, quench, switching, field, port⟩ := s.tick_others shed
  obtain ⟨-, -, power, -⟩ := s.tick_meter shed
  obtain ⟨previous, empties, kept, interval, settled, governor, attention⟩ := State.tick_closed closes shed
  obtain ⟨load, locked, unstaged, suits, early⟩ := State.tick_tariff closes shed
  have figured : figures = closedInto (s.secondMeter shed).period demand counted (s.tick shed).meter.dayCount
      (s.tick shed).meter.timeOfDay := by
    have same : figures = s.figuresOfTick shed := (if_congr (and_iff_right closes) rfl rfl).symm
    rw [same, State.figuresOfTick_closedInto closes, ← power]
    rfl
  obtain ⟨counts, uncounts, highest⟩ := closedInto_counts (s.secondMeter shed).period demand counted
    (s.tick shed).meter.dayCount (s.tick shed).meter.timeOfDay
  rw [← figured] at counts uncounts highest
  rw [← power] at previous
  refine ⟨previous, counts, uncounts, highest, fun pending => ?period, fun still => ?stays, suits, early, unstaged, load,
    interval, ?force, settled, governor, attention, current, units, quench, switching, field, port⟩
  case period =>
    obtain ⟨period, day, time⟩ := empties pending
    refine ⟨period, settled, ?_, day, time⟩
    rw [locked, pending, Bool.not_true, Bool.and_false]
  case stays =>
    refine ⟨kept still, ?_⟩
    rw [locked, still, Bool.not_false, Bool.and_true]
  case force =>
    rw [interval]
    exact TariffTable.inForce_bandAt _ _ _

/-! ### SET CLOCK (R149) -/

/-- Settles O41: SET CLOCK is the close of a partial interval, the clock written, and the next interval begun. -/
theorem setClockClosesPartialInterval : Obligations.SetClockClosesPartialInterval := by
  intro s time day takes
  have served : exec (.setClock time day) s = .next (State.replied (s.abandonLoad.serveSetClock time day)) :=
    congrArg Host.Outcome.next (State.lineRequest_replied takes _)
  rw [served]
  unfold State.serveSetClock
  refine ⟨fun refused => ?refused, fun inRange => ⟨_, ?done, rfl, ?_⟩⟩
  case refused =>
    rw [if_pos (by unfold daySeconds; omega)]
    rfl
  case done =>
    rw [if_neg (by unfold daySeconds; omega), State.closed_eq]
    rfl
  case _ => exact TariffTable.inForce_bandAt s.tariff.active time day

/-! ### Curtailment and periods (R146, R156, R157) -/

section Requests

variable (takes : s.port.takes = true)

include takes

theorem exec_curtail (limit minutes : Nat) :
    exec (.curtail limit minutes) s = .next (
      if 16777215 < limit ∨ minutes = 0 ∨ 1440 < minutes then answered s.abandonLoad .param []
      else
        answered { s.abandonLoad with meter := { s.meter with
          curtailment := some ⟨limit, (s.meter.lineSeconds + minutes * 60) % 4294967296⟩ } } .done []) := by
  refine congrArg Host.Outcome.next ((State.lineRequest_replied takes _).trans ?_)
  unfold State.serveCurtail
  rw [apply_ite State.replied]
  rfl

theorem exec_cancelCurtail :
    exec .cancelCurtail s = .next (
      if s.meter.curtailment = none then answered s.abandonLoad .late []
      else answered { s.abandonLoad with meter := { s.meter with curtailment := none } } .done []) := by
  refine congrArg Host.Outcome.next ((State.lineRequest_replied takes _).trans ?_)
  unfold State.serveCancelCurtail
  rw [apply_ite State.replied, ← ite_not]
  exact if_congr Option.not_isSome_iff_eq_none rfl rfl

theorem exec_closePeriod :
    exec .closePeriod s = .next
      (answered { s.abandonLoad with meter := { s.meter with pendingClose := true } } .done []) :=
  congrArg Host.Outcome.next (State.lineRequest_replied takes _)

end Requests

/-- Settles O42: the three requests, and the tick that removes the curtailment. -/
theorem curtailmentAndPeriodRequests : Obligations.CurtailmentAndPeriodRequests := by
  refine ⟨fun _ limit minutes takes => exec_curtail takes limit minutes,
    fun _ takes => ⟨exec_cancelCurtail takes, exec_closePeriod takes⟩, fun s shed => ⟨fun stays => ?_, fun ends => ?_⟩⟩
  · exact congrArg Host.Outcome.next (if_neg (s.curtailmentEndsNext_iff.not.mpr stays))
  · have due : s.curtailmentEndsNext = true := s.curtailmentEndsNext_iff.mpr ends
    obtain ⟨-, -, -, -, curtailment, -⟩ := s.tick_meter shed
    exact ⟨s.tick shed, congrArg Host.Outcome.next (if_pos due), rfl, curtailment.trans (if_pos due)⟩

end Sys2Proof.Machine
end

section
/-! PROOFS. A load that validation accepts builds a table that meets R162 (R166), and what a table gives inside an interval
(R139, R163). -/

namespace Sys2Proof.Machine

/-! ### Validation (R166) -/

/-- The points after one at second `before` pass exactly where they ascend from it, on the grid and within the day, each
with a band of the table (R166 items 7 and 8). -/
theorem badPoint_after_eq_none_iff (part length bandCount : Nat) (points : List ChangePoint) (k before : Nat) :
    badPoint part length bandCount k (some before) points = none ↔
      (points.Pairwise fun a b => a.second < b.second) ∧ ∀ c ∈ points,
        before < c.second ∧ (c.second % length = 0 ∧ c.second < daySeconds) ∧ 1 ≤ c.band ∧ c.band ≤ bandCount := by
  induction points generalizing k before with
  | nil => simp [badPoint]
  | cons c rest ih =>
    unfold badPoint
    simp only [decide_eq_true_eq, List.pairwise_cons, List.forall_mem_cons]
    split_ifs with misplaced unbanded
    · simp only [false_iff]
      omega
    · simp only [false_iff]
      omega
    · rw [ih]
      constructor
      · rintro ⟨ascending, good⟩
        exact ⟨⟨fun x member => (good x member).1, ascending⟩, by omega, fun x member =>
          ⟨by have := (good x member).1; omega, (good x member).2⟩⟩
      · rintro ⟨⟨above, ascending⟩, -, good⟩
        exact ⟨ascending, fun x member => ⟨above x member, (good x member).2⟩⟩

/-- A schedule without a bad item meets R162 (R166 items 5 to 8). -/
theorem ScheduleValid.of_badSchedule {part : Nat} {h : TariffHeader} {points : List ChangePoint}
    (good : badSchedule part h (some points) = none) : ScheduleValid h.length h.bandCount points := by
  unfold badSchedule at good
  dsimp only at good
  split_ifs at good with size
  cases points with
  | nil => simp at size
  | cons c rest =>
    unfold badPoint at good
    dsimp only at good
    split at good
    · cases good
    next placed =>
    split at good
    · cases good
    next banded =>
    obtain ⟨ascending, rest⟩ := (badPoint_after_eq_none_iff _ _ _ _ _ _).mp good
    simp only [ne_eq, decide_eq_true_eq] at placed
    constructor
    case size => omega
    case first =>
      rintro d back same
      cases same
      omega
    case ascending => exact List.pairwise_cons.mpr ⟨fun x member => (rest x member).1, ascending⟩
    case grid => exact List.forall_mem_cons.mpr ⟨by omega, fun x member => (rest x member).2.1⟩
    case bands => exact List.forall_mem_cons.mpr ⟨by omega, fun x member => (rest x member).2.2⟩

theorem intervalLengths_range : ∀ l ∈ intervalLengths, 300 ≤ l ∧ l ≤ 3600 ∧ l % 60 = 0 ∧ daySeconds % l = 0 := by
  decide

theorem headerLimits_le_of_badLimit {h : TariffHeader} (count : 1 ≤ h.bandCount ∧ h.bandCount ≤ 4)
    (good : badLimit h = none) : ∀ l ∈ (headerLimits h).take h.bandCount, l ≤ topLimit := by
  obtain ⟨_, n, l1, l2, l3, l4, _⟩ := h
  obtain rfl | rfl | rfl | rfl : n = 1 ∨ n = 2 ∨ n = 3 ∨ n = 4 := by
    dsimp only at count
    omega
  all_goals
    simp only [badLimit, headerLimits, List.find?_eq_none] at good
    simpa [headerLimits] using good

/-- A table that a load builds where validation finds no bad item meets R162 (R166). -/
theorem TariffTable.Valid.of_firstBad {h : TariffHeader} {working rest : Option (List ChangePoint)}
    (good : firstBad h working rest = none) : (builtTable h (working.getD []) (rest.getD [])).Valid := by
  unfold firstBad at good
  simp only [Option.or_eq_none_iff] at good
  obtain ⟨⟨header, workingGood⟩, restGood⟩ := good
  unfold badHeader at header
  cases limits : badLimit h with
  | some b =>
    rw [limits] at header
    split_ifs at header
  | none =>
  rw [limits] at header
  split_ifs at header with unknown count mask
  cases working with
  | none => cases workingGood
  | some w =>
    cases rest with
    | none => cases restGood
    | some r =>
      constructor
      case length => exact intervalLengths_range h.length (by simpa using unknown)
      case bandCount => exact ⟨by simp only [builtTable]; omega, by simp only [builtTable]; omega⟩
      case limits =>
        refine ⟨?_, headerLimits_le_of_badLimit (by omega) limits⟩
        simp only [builtTable, headerLimits, List.length_take, List.length_cons, List.length_nil]
        omega
      case restMask => exact not_le.mp mask
      case working => exact ScheduleValid.of_badSchedule workingGood
      case rest => exact ScheduleValid.of_badSchedule restGood

/-! ### The band inside an interval (R139, R163) -/

/-- No multiple of the length lies inside an interval that ends on its grid. -/
theorem off_grid_inside {length start time : Nat} (after : start < time) (before : time < start + (length - start % length)) :
    time % length ≠ 0 := by
  intro multiple
  have positive : 0 < length := by
    by_contra zero
    simp [Nat.eq_zero_of_not_pos zero] at before
    omega
  have rest := Nat.mod_lt start positive
  obtain ⟨k, rfl⟩ := Nat.dvd_of_mod_eq_zero multiple
  have parts := Nat.div_add_mod start length
  have above : start / length < k := Nat.lt_of_mul_lt_mul_left (a := length) (by omega)
  have below : k < start / length + 1 := Nat.lt_of_mul_lt_mul_left (a := length) (by rw [Nat.mul_add_one]; omega)
  omega

theorem TariffTable.Valid.schedule {t : TariffTable} (valid : t.Valid) (day : Nat) :
    ScheduleValid t.length t.bandCount (t.schedule day) := by
  unfold TariffTable.schedule
  split
  exacts [valid.rest, valid.working]

/-- The band changes on the grid only: every change point lies on it. -/
theorem TariffTable.Valid.bandAt_succ {t : TariffTable} (valid : t.Valid) {time : Nat} (off : (time + 1) % t.length ≠ 0)
    (day : Nat) : t.bandAt (time + 1) day = t.bandAt time day := by
  have same : (t.schedule day).filter (fun c => decide (c.second ≤ time + 1)) =
      (t.schedule day).filter (fun c => decide (c.second ≤ time)) := by
    refine List.filter_congr fun c member => decide_eq_decide.mpr ?_
    have grid := ((valid.schedule day).grid c member).1
    have apart : c.second ≠ time + 1 := fun reached => off (reached ▸ grid)
    omega
  unfold TariffTable.bandAt
  rw [same]

end Sys2Proof.Machine
end

section
/-! PROOFS. Every step keeps the agreement of the Demand Meter and the Tariff Store: what the agreement reads, and the
operations and servings that leave it (R135, R139 to R141, R162, R163). -/

namespace Sys2Proof.Machine

/-! ### What the agreement reads -/

/-- The fields of the Demand Meter and the Tariff Store that their agreement reads. -/
structure MeterView where
  active : TariffTable
  staged : Option TariffTable
  seconds : Nat
  timeOfDay : Nat
  dayOfWeek : Nat
  dayCount : Nat
  interval : Interval
  period : PeriodFigures
  closed : PeriodFigures
  governor : Governor

def State.meterView (s : State) : MeterView :=
  ⟨s.tariff.active, s.tariff.staged, s.meter.lineSeconds, s.meter.timeOfDay, s.meter.dayOfWeek, s.meter.dayCount,
    s.meter.interval, s.meter.period, s.meter.closed.figures, s.meter.governor⟩

/-- The energies of a period are in their ranges (R141). -/
def PeriodFigures.Sound (f : PeriodFigures) : Prop :=
  ∀ b, (f.band b).residue < 3600 ∧ (f.band b).kwh < 4294967296

/-- The current of the governor fits its state (R153, R154). -/
structure Governor.Sound (g : Governor) : Prop where
  off : g.state = .off → g.iDlim = topCurrent
  limit : g.iDlim ≤ topCurrent

/-- The part of the agreement that does not read the interval in progress. -/
structure MeterView.Standing (v : MeterView) : Prop where
  active : v.active.Valid
  staged : ∀ t, v.staged = some t → t.Valid
  seconds : v.seconds < secondsModulus
  timeOfDay : v.timeOfDay < daySeconds
  dayOfWeek : v.dayOfWeek < 7
  dayCount : v.dayCount < 65536
  period : v.period.Sound
  closed : v.closed.Sound
  governor : v.governor.Sound

/-- The interval in progress has not run out, ends on the grid, began when the time of day says, and carries what the
active table gives. -/
structure MeterView.Running (v : MeterView) : Prop where
  elapsed : v.interval.elapsed < v.interval.planned
  grid : v.interval.planned = v.active.length - v.interval.start % v.active.length
  began : v.timeOfDay = v.interval.start + v.interval.elapsed
  band : v.interval.band = v.active.bandAt v.timeOfDay v.dayOfWeek
  limit : v.interval.limit = v.active.limitOf v.interval.band

theorem State.meterSound_iff (s : State) : s.MeterSound ↔ s.meterView.Standing ∧ s.meterView.Running := by
  constructor
  · rintro ⟨active, staged, seconds, timeOfDay, dayOfWeek, dayCount, elapsed, grid, began, band, limit, residues, energies,
      off, top⟩
    exact ⟨⟨active, staged, seconds, timeOfDay, dayOfWeek, dayCount, fun b => ⟨(residues b).1, (energies b).1⟩,
      fun b => ⟨(residues b).2, (energies b).2⟩, ⟨off, top⟩⟩, ⟨elapsed, grid, began, band, limit⟩⟩
  · rintro ⟨⟨active, staged, seconds, timeOfDay, dayOfWeek, dayCount, period, closed, ⟨off, top⟩⟩,
      ⟨elapsed, grid, began, band, limit⟩⟩
    exact ⟨active, staged, seconds, timeOfDay, dayOfWeek, dayCount, elapsed, grid, began, band, limit,
      fun b => ⟨(period b).1, (closed b).1⟩, fun b => ⟨(period b).2, (closed b).2⟩, off, top⟩

section Views

variable {s t : State}

theorem State.MeterSound.of_view (sound : s.MeterSound) (same : t.meterView = s.meterView) : t.MeterSound := by
  rw [State.meterSound_iff] at sound ⊢
  rwa [same]

/-- The interval in progress carries the band and the limit of the last change point in effect (R163). -/
theorem State.MeterSound.inForce (sound : s.MeterSound) : Claims.inForce s.tariff.active s.meter.timeOfDay
    s.meter.dayOfWeek s.meter.interval.band s.meter.interval.limit := by
  rw [sound.limit, sound.band]
  exact TariffTable.inForce_bandAt _ _ _

/-! ### Operations that leave what the agreement reads -/

theorem State.SameMeterAndLinks.meterView (same : s.SameMeterAndLinks t) : t.meterView = s.meterView := by
  unfold State.meterView
  rw [same.meter, same.tariff]

theorem State.SameLinks.meterView (same : s.SameLinks t) : t.meterView = s.meterView :=
  same.meterAndLinks.meterView

@[simp] theorem State.evaluate_meterView (s : State) (cycle : Bool) : (s.evaluate cycle).meterView = s.meterView :=
  (State.evaluate_links s cycle).meterView

@[simp] theorem State.eventEvaluation_meterView (s : State) : s.eventEvaluation.meterView = s.meterView :=
  State.evaluate_meterView s false

@[simp] theorem State.grantEvaluation_meterView (s : State) : s.grantEvaluation.meterView = s.meterView :=
  (State.grantEvaluation_links s).meterView

@[simp] theorem State.compareHead_meterView (s : State) : s.compareHead.meterView = s.meterView := by
  rw [State.compareHead_frame]
  rfl

@[simp] theorem State.endSwitch_meterView (s : State) (p : Nat) (result : SwitchResult) :
    (s.endSwitch p result).meterView = s.meterView := by
  rw [State.endSwitch_frame]
  rfl

@[simp] theorem State.expireSwitch_meterView (s : State) (p : Nat) (result : SwitchResult) :
    (s.expireSwitch p result).meterView = s.meterView :=
  State.endSwitch_meterView s p result

@[simp] theorem State.startSwitch_meterView (s : State) (p : Nat) (d : Direction) :
    (s.startSwitch p d).meterView = s.meterView := by
  rw [State.startSwitch_eq]
  split
  · exact State.eventEvaluation_meterView _
  · rfl

@[simp] theorem State.completeSwitch_meterView (s : State) (p : Nat) : (s.completeSwitch p).meterView = s.meterView := by
  have applied : (s.applySwitch p).meterView = s.meterView := by
    unfold State.applySwitch
    split
    · split <;> rfl
    · rfl
  exact (State.endSwitch_meterView _ p .completed).trans applied

@[simp] theorem State.endQuench_meterView (s : State) (p : Nat) : (s.endQuench p).meterView = s.meterView := by
  unfold State.endQuench
  rw [State.freeSlotOf_frame]
  rfl

@[simp] theorem State.settleExpired_meterView (s : State) (p : Nat) : (s.settleExpired p).meterView = s.meterView := rfl

@[simp] theorem State.permitExpired_meterView (s : State) (k p : Nat) : (s.permitExpired k p).meterView = s.meterView :=
  rfl

@[simp] theorem State.escalate_meterView (s : State) (p : Nat) : (s.escalate p).meterView = s.meterView := by
  unfold State.escalate
  dsimp only
  split
  · exact State.grantEvaluation_meterView _
  · rfl

@[simp] theorem State.tripUnit_meterView (s : State) (u : Nat) (cause : TripCause) :
    (s.tripUnit u cause).meterView = s.meterView :=
  State.eventEvaluation_meterView _

@[simp] theorem State.loseUnit_meterView (s : State) (u : Nat) : (s.loseUnit u).meterView = s.meterView :=
  State.eventEvaluation_meterView _

@[simp] theorem State.silenceUnit_meterView (s : State) (u : Nat) : (s.silenceUnit u).meterView = s.meterView := by
  rw [State.silenceUnit_eq]
  split
  · exact State.eventEvaluation_meterView _
  · rfl

theorem State.takeItems_meterView (node : Nat) (items : List ReportItem) (s : State) :
    (State.takeItems node items s).1.meterView = s.meterView := by
  induction items generalizing s with
  | nil => rfl
  | cons i rest ih =>
    refine (ih (s.takeItem node i).1).trans ?_
    unfold State.takeItem
    dsimp only
    split
    · exact (State.acceptReport_meterAndLinks s _ _).meterView
    · rfl

/-! ### Requests -/

theorem State.lineRequest_meterView (s : State) (serve : State → State × Reply)
    (served : ∀ t, (serve t).1.meterView = t.meterView) : (s.lineRequest serve).meterView = s.meterView :=
  State.lineRequest_keeps (fun t => t.meterView = s.meterView) s serve rfl (fun _ kept => kept)
    (fun t kept => (served t).trans kept) (fun _ _ _ kept => kept)

theorem State.fieldRequest_meterView (s : State) (kinds : List NodeKind) (serve : Nat → State → State × Reply)
    (served : ∀ node t, (serve node t).1.meterView = t.meterView) :
    (s.fieldRequest kinds serve).meterView = s.meterView :=
  State.fieldRequest_keeps (fun t => t.meterView = s.meterView) s kinds serve rfl (fun _ kept => kept)
    (fun node t kept => (served node t).trans kept) (fun _ _ kept => kept)

theorem State.serveSetParam_meterView (s : State) (i v : Nat) : (s.serveSetParam i v).1.meterView = s.meterView := by
  unfold State.serveSetParam
  dsimp only [State.answer]
  split_ifs
  exacts [State.eventEvaluation_meterView _, rfl, rfl]

/-! ### The commands that leave what the agreement reads -/

/-- The commands that change something the agreement reads: RESET, a tick, SET CLOCK and a load. -/
def movesMeter : Instr → Bool
  | .reset | .meteringTick _ | .dayRollover _ | .intervalClose _ | .curtailmentExpiry _ | .setClock _ _
  | .loadTariff _ _ => true
  | _ => false

/-- Every other command leaves what the agreement reads. -/
theorem exec_keeps_meterView (c : Instr) (s t : State) (other : movesMeter c = false) (done : exec c s = .next t) :
    t.meterView = s.meterView := by
  cases c <;> cases other <;> cases done
  case dispatchCycle arbiterFirst =>
    rw [State.compareHead_meterView, (State.cycleWork_links _ arbiterFirst).meterView]
    rfl
  case potSilence | turn | idleTime | fieldFrameGap | lmFrameRefused | rangeFrameNext | lmReplyEnd => split <;> rfl
  case startHoldExpiry =>
    dsimp only
    split <;> rfl
  case escalation | settleExpiry | flowGraceExpiry | unitSilence | unitLoss => split <;> simp
  case permitExpiry | rampFailure | windowExpiry =>
    split
    · split <;> simp
    · rfl
  case miss =>
    unfold State.countMiss
    dsimp only
    repeat' split
    all_goals rfl
  case fieldFrameRefused =>
    dsimp only
    repeat' split
    all_goals rfl
  case lmBreak | lmFrameGap | lmrxIdleReturn => rfl
  case pass => exact State.fieldRequest_meterView s _ _ fun _ _ => rfl
  case potReport items => exact State.fieldRequest_meterView s _ _ fun node t => State.takeItems_meterView node items t
  case switchRequest | switchDone | switchCancel | quenchEnd =>
    refine State.fieldRequest_meterView s _ _ fun _ t => ?_
    simp only [State.serveSwitchRequest, State.serveSwitchDone, State.serveSwitchCancel, State.serveQuenchEnd]
    split <;> simp
  case unitReport =>
    refine State.fieldRequest_meterView s _ _ fun _ t => ?_
    unfold State.serveUnitReport
    dsimp only
    split
    · exact State.acceptUnitReport_links.meterView
    · rfl
  case readPotRange =>
    unfold State.takeRange
    dsimp only
    split_ifs <;> rfl
  case readNodes | setTarget | readLine | readMeter | readPeriod | closePeriod | lockTariff | getAttention =>
    exact State.lineRequest_meterView s _ fun _ => rfl
  case admitPot | retirePot | assignOwner | readPot | readUnit | addNode | dropNode | readParam | curtail | cancelCurtail |
      readTariff | ackAttention | setAttentionMask =>
    refine State.lineRequest_meterView s _ fun t => ?_
    simp only [State.serveAdmit, State.serveRetire, State.serveAssign, State.serveReadPot, State.serveReadUnit,
      State.serveAddNode, State.serveDropNode, State.serveReadParam, State.serveCurtail, State.serveCancelCurtail,
      State.serveReadTariff, State.serveAck, State.serveSetMask]
    repeat' split
    all_goals rfl
  case setParam => exact State.lineRequest_meterView s _ fun t => t.serveSetParam_meterView _ _
  case defineUnit | removeUnit | tripUnit | restoreUnit | run | hold | resume =>
    refine State.lineRequest_meterView s _ fun t => ?_
    simp only [State.serveDefineUnit, State.serveRemoveUnit, State.serveTripUnit, State.serveRestoreUnit, State.serveRun,
      State.serveHold, State.serveResume]
    split_ifs
    all_goals simp only [State.answer, State.eventEvaluation_meterView, State.tripUnit_meterView]
    all_goals rfl

end Views

end Sys2Proof.Machine
end

section
/-! PROOFS. Every step keeps the agreement of the Demand Meter and the Tariff Store: the tick, SET CLOCK and a load (R135,
R139 to R141, R149, R162, R163, R166). -/

namespace Sys2Proof.Machine

section Steps

variable {s t : State}

/-! ### The figures of a period and the governor -/

theorem PeriodFigures.empty_sound : PeriodFigures.empty.Sound := fun b => by
  rw [PeriodFigures.empty_band]
  exact ⟨by decide, by decide⟩

/-- Figures with the same energies are sound together: a close counts its interval only (R144). -/
theorem PeriodFigures.Sound.of_bands {f g : PeriodFigures} (sound : f.Sound) (same : g.bands = f.bands) : g.Sound := by
  unfold PeriodFigures.Sound PeriodFigures.band
  rw [same]
  exact sound

/-- The power of a second leaves the energies in their ranges (R141). -/
theorem PeriodFigures.Sound.credited {f : PeriodFigures} (sound : f.Sound) (band power : Nat) :
    PeriodFigures.Sound { f with bands := tput f.bands band ((f.band band).credited power) } := by
  intro b
  unfold PeriodFigures.band
  by_cases inside : 1 ≤ b ∧ b ≤ 4
  · rw [tget_tput _ _ _ _ _ inside.1 inside.2]
    split
    · exact ⟨Nat.mod_lt _ (by decide), Nat.mod_lt _ (by decide)⟩
    · exact sound b
  · rw [tget_outside _ _ _ (by omega)]
    exact ⟨by decide, by decide⟩

theorem DemandMeter.governed_sound (m : DemandMeter) (dLim : Nat) : (m.governed dLim).Sound := by
  unfold DemandMeter.governed
  split
  · exact ⟨fun _ => rfl, le_rfl⟩
  · refine ⟨nofun, ?_⟩
    change m.limitedCurrent dLim ≤ topCurrent
    unfold DemandMeter.limitedCurrent
    split_ifs
    exacts [Nat.zero_le _, le_rfl, min_le_left _ _]

/-! ### An interval that begins (R139) -/

theorem MeterView.Running.of_begun {v : MeterView} (active : v.active.Valid)
    (begun : v.interval = v.active.intervalFrom v.timeOfDay v.dayOfWeek) : v.Running := by
  have positive : 0 < v.active.length := by
    have := active.length
    omega
  constructor <;> rw [begun]
  case elapsed => exact Nat.sub_pos_of_lt (Nat.mod_lt _ positive)
  all_goals rfl

/-! ### The tick (R136) -/

/-- The figures that a tick writes, those of the period and of the closed-period record (R141, R147). -/
theorem State.tick_figures (s : State) (shed : Bool) (standing : s.meterView.Standing) :
    (s.tick shed).meter.period.Sound ∧ (s.tick shed).meter.closed.figures.Sound := by
  have figures : (s.figuresOfTick shed).Sound :=
    (standing.period.credited s.meter.interval.band s.linePower).of_bands (s.figuresOfTick_bands shed)
  unfold State.figuresOfTick at figures
  by_cases closes : s.meter.interval.elapsed + 1 = s.meter.interval.planned
  · obtain ⟨-, empties, kept, -⟩ := State.tick_closed closes shed
    by_cases pending : s.meter.pendingClose = true
    · rw [if_pos ⟨closes, pending⟩] at figures
      exact ⟨(empties pending).1 ▸ PeriodFigures.empty_sound, figures⟩
    · rw [if_neg fun both => pending both.2] at figures
      exact ⟨figures, kept (Bool.eq_false_iff.mpr pending) ▸ standing.closed⟩
  · rw [if_neg fun both => closes both.1] at figures
    obtain ⟨-, -, closed, -⟩ := State.tick_goesOn shed closes
    exact ⟨figures, closed ▸ standing.closed⟩

/-- The tables after a tick: a staged table becomes active, or both stay (R168). -/
theorem State.tick_tables (s : State) (shed : Bool) (standing : s.meterView.Standing) :
    (s.tick shed).tariff.active.Valid ∧ ∀ table, (s.tick shed).tariff.staged = some table → table.Valid := by
  by_cases closes : s.meter.interval.elapsed + 1 = s.meter.interval.planned
  · obtain ⟨-, -, unstaged, suits, early⟩ := State.tick_tariff closes shed
    cases given : s.tariff.staged with
    | none =>
      obtain ⟨active, staged⟩ := unstaged given
      rw [active, staged]
      exact ⟨standing.active, fun _ absent => nomatch absent⟩
    | some table =>
      have valid : table.Valid := standing.staged table given
      by_cases boundary : (s.tick shed).meter.timeOfDay % s.tariff.active.length = 0 ∧
          (s.tick shed).meter.timeOfDay % table.length = 0
      · obtain ⟨active, staged⟩ := suits table given boundary
        rw [active, staged]
        exact ⟨valid, fun _ absent => nomatch absent⟩
      · obtain ⟨active, staged⟩ := early table given boundary
        rw [active, staged]
        exact ⟨standing.active, fun _ same => Option.some.inj same ▸ valid⟩
  · obtain ⟨-, -, -, -, tariff⟩ := State.tick_goesOn shed closes
    rw [tariff]
    exact ⟨standing.active, standing.staged⟩

theorem State.tick_governor (s : State) (shed : Bool) (standing : s.meterView.Standing) :
    (s.tick shed).meter.governor.Sound := by
  by_cases closes : s.meter.interval.elapsed + 1 = s.meter.interval.planned
  · obtain ⟨-, -, -, -, -, governor, -⟩ := State.tick_closed closes shed
    exact governor ▸ standing.governor
  · rw [State.tick_projecting closes]
    exact DemandMeter.governed_sound _ _

/-- The calendar stays in range (R135). -/
theorem State.tick_calendar (s : State) (shed : Bool) (standing : s.meterView.Standing) :
    (s.tick shed).meter.timeOfDay < daySeconds ∧ (s.tick shed).meter.dayOfWeek < 7 ∧
      (s.tick shed).meter.dayCount < 65536 := by
  by_cases rolls : 86400 ≤ s.meter.timeOfDay + 1
  · obtain ⟨time, day, count, -⟩ := State.tick_rollover shed rolls
    rw [time, day, count]
    exact ⟨by decide, Nat.mod_lt _ (by decide), Nat.mod_lt _ (by decide)⟩
  · obtain ⟨time, day, count, -⟩ := State.tick_sameDay shed (not_le.mp rolls)
    rw [time, day, count]
    exact ⟨not_le.mp rolls, standing.dayOfWeek, standing.dayCount⟩

theorem State.tick_standing (s : State) (shed : Bool) (standing : s.meterView.Standing) :
    (s.tick shed).meterView.Standing := by
  obtain ⟨active, staged⟩ := s.tick_tables shed standing
  obtain ⟨time, day, count⟩ := s.tick_calendar shed standing
  obtain ⟨period, closed⟩ := s.tick_figures shed standing
  obtain ⟨seconds, -⟩ := s.tick_meter shed
  have inRange : (s.tick shed).meter.lineSeconds < secondsModulus := seconds ▸ Nat.mod_lt _ (by decide)
  exact ⟨active, staged, inRange, time, day, count, period, closed, s.tick_governor shed standing⟩

/-- A second inside an interval is off the grid, so the day and the band go on (R135, R139, R163). -/
theorem State.MeterSound.off_grid (sound : s.MeterSound)
    (goesOn : s.meter.interval.elapsed + 1 ≠ s.meter.interval.planned) :
    (s.meter.timeOfDay + 1) % s.tariff.active.length ≠ 0 := by
  have began := sound.began
  have elapsed := sound.elapsed
  have grid := sound.grid
  exact off_grid_inside (start := s.meter.interval.start) (by omega) (by omega)

theorem State.MeterSound.tick (sound : s.MeterSound) (shed : Bool) : (s.tick shed).MeterSound := by
  obtain ⟨standing, running⟩ := s.meterSound_iff.mp sound
  have standing' := s.tick_standing shed standing
  refine (State.meterSound_iff _).mpr ⟨standing', ?_⟩
  by_cases closes : s.meter.interval.elapsed + 1 = s.meter.interval.planned
  · obtain ⟨-, -, -, begun, -⟩ := State.tick_closed closes shed
    exact .of_begun standing'.active begun
  · have off := sound.off_grid closes
    have sameDay : s.meter.timeOfDay + 1 < 86400 := by
      by_contra rolls
      have midnight : s.meter.timeOfDay + 1 = daySeconds := le_antisymm sound.timeOfDay (not_lt.mp rolls)
      exact off (midnight ▸ sound.active.length.2.2.2)
    obtain ⟨interval, -, -, -, tariff⟩ := State.tick_goesOn shed closes
    obtain ⟨time, day, -⟩ := State.tick_sameDay shed sameDay
    obtain ⟨elapsed, grid, began, band, limit⟩ := running
    constructor
    all_goals
      dsimp only [State.meterView] at *
      rw [interval]
    case elapsed => exact lt_of_le_of_ne elapsed closes
    case grid => rw [tariff]; exact grid
    case began => rw [time, began]; rfl
    case band => rw [tariff, time, day, sound.active.bandAt_succ off]; exact band
    case limit => rw [tariff]; exact limit

/-! ### SET CLOCK and a load (R149, R165 to R167) -/

theorem State.MeterSound.serveSetClock (sound : s.MeterSound) (time day : Nat) :
    (s.serveSetClock time day).1.MeterSound := by
  unfold State.serveSetClock
  split
  · exact sound
  next passed =>
  obtain ⟨timeInRange, dayInRange⟩ : time < daySeconds ∧ day < 7 := by omega
  obtain ⟨active, staged, seconds, -, -, count, period, closed, governor⟩ := (s.meterSound_iff.mp sound).1
  have figures : (s.figuresClosed s.meter.interval.elapsed).Sound := period.of_bands rfl
  rw [State.closed_eq]
  refine (State.meterSound_iff _).mpr
    ⟨⟨active, staged, seconds, timeInRange, dayInRange, count, ?_, ?_, governor⟩, .of_begun active rfl⟩
  · change PeriodFigures.Sound (if _ then _ else _)
    split
    exacts [PeriodFigures.empty_sound, figures]
  · change PeriodFigures.Sound (ClosedPeriod.figures (if _ then _ else _))
    split
    exacts [figures, closed]

theorem State.MeterSound.finishLoad (sound : s.MeterSound) (h : TariffHeader) (working rest : Option (List ChangePoint)) :
    (s.finishLoad h working rest).1.MeterSound := by
  unfold State.finishLoad
  split
  · exact sound.of_view rfl
  · next good =>
    exact { sound with staged := fun _ same => Option.some.inj same ▸ TariffTable.Valid.of_firstBad good }

theorem State.MeterSound.serveLoadTariff (sound : s.MeterSound) (part : TariffPart) (final : Bool) :
    (s.serveLoadTariff part final).1.MeterSound := by
  have loading : ∀ load, (s.withLoad load).MeterSound := fun _ => sound.of_view rfl
  unfold State.serveLoadTariff
  split
  · split
    · exact sound
    · cases part
      case header h => cases final; exacts [loading _, sound.finishLoad h _ _]
      all_goals exact sound
  · cases part
    case working => cases final; exacts [loading _, sound.finishLoad _ _ _]
    all_goals exact loading _
  · cases part
    case rest => cases final; exacts [loading _, sound.finishLoad _ _ _]
    all_goals exact loading _

/-! ### Every command and every step -/

theorem exec_meterSound (c : Instr) (s t : State) (sound : s.MeterSound) (done : exec c s = .next t) : t.MeterSound := by
  cases c with
  | reset =>
    cases done
    exact State.reset_meterSound.of_view rfl
  | meteringTick shed =>
    cases done
    exact sound.tick shed
  | dayRollover shed | intervalClose shed | curtailmentExpiry shed =>
    cases done
    split; exacts [sound.tick shed, sound]
  | setClock time day =>
    cases done
    exact State.lineRequest_keeps State.MeterSound s _ sound (fun _ kept => kept.of_view rfl)
      (fun _ kept => kept.serveSetClock time day) (fun _ _ _ kept => kept.of_view rfl)
  | loadTariff part final =>
    cases done
    exact State.loadFrame_keeps State.MeterSound s _ sound (fun _ kept => kept.serveLoadTariff part final)
      (fun _ _ _ kept => kept.of_view rfl)
  | _ => exact sound.of_view (exec_keeps_meterView _ s t rfl done)

end Steps

/-- Settles O43: the agreement is kept by every command, and it says which change point is in effect. -/
theorem intervalStaysOnTheGrid : Obligations.IntervalStaysOnTheGrid := by
  intro s t sound done
  suffices kept : t.MeterSound from ⟨kept, kept.inForce⟩
  cases front : s.pending with
  | nil =>
    rw [step_idle s front] at done
    cases done
    rw [State.replyEnded_frame]
    exact sound.of_view rfl
  | cons c rest =>
    rw [step_waiting s c rest front] at done
    exact exec_meterSound c (s.withPending rest) t (sound.of_view rfl) done

end Sys2Proof.Machine
end

section
/-! PROOFS. Validation of a load (R166): it names the first bad item of `loadItems`, and it names none exactly where the
table that the load builds meets R162. -/

namespace Sys2Proof.Machine

open Sys2Proof.Claims

/-! ### The first bad item of a list of items -/

/-- The first bad item of items that each say whether they are bad. -/
def firstBadOf (items : List (Bool × BadItem)) : Option BadItem :=
  (items.find? Prod.fst).map Prod.snd

@[simp] theorem firstBadOf_nil : firstBadOf [] = none := rfl

@[simp] theorem firstBadOf_cons (bad : Bool) (item : BadItem) (items : List (Bool × BadItem)) :
    firstBadOf ((bad, item) :: items) = if bad then some item else firstBadOf items := by
  cases bad <;> rfl

@[simp] theorem firstBadOf_append (items others : List (Bool × BadItem)) :
    firstBadOf (items ++ others) = (firstBadOf items).or (firstBadOf others) := by
  simp [firstBadOf, Option.map_or]

/-- Items numbered along a list name the first number that is bad. -/
theorem firstBadOf_map (bad : Nat → Bool) (item : Nat → BadItem) (numbers : List Nat) :
    firstBadOf (numbers.map fun k => (bad k, item k)) = (numbers.find? bad).map item := by
  simp [firstBadOf, List.find?_map, Function.comp_def]

/-! ### The header (R166 items 1 to 4) -/

/-- The eighteen interval lengths are those that R162 describes. -/
theorem mem_intervalLengths_iff (l : Nat) :
    l ∈ intervalLengths ↔ 300 ≤ l ∧ l ≤ 3600 ∧ l % 60 = 0 ∧ daySeconds % l = 0 := by
  refine ⟨intervalLengths_range l, fun ⟨least, greatest, minutes, divides⟩ => ?_⟩
  obtain ⟨k, rfl⟩ := Nat.dvd_of_mod_eq_zero minutes
  have checked : ∀ k < 61, 5 ≤ k → daySeconds % (60 * k) = 0 → 60 * k ∈ intervalLengths := by decide
  exact checked k (by omega) (by omega) divides

/-- The items of R166 for the four limits a header carries: those beyond the band count are never bad. -/
def limitItems (h : TariffHeader) : List (Bool × BadItem) :=
  [(1 ≤ h.bandCount && 16777215 < h.limit1, ⟨1, 3, 1⟩), (2 ≤ h.bandCount && 16777215 < h.limit2, ⟨1, 3, 2⟩),
   (3 ≤ h.bandCount && 16777215 < h.limit3, ⟨1, 3, 3⟩), (4 ≤ h.bandCount && 16777215 < h.limit4, ⟨1, 3, 4⟩)]

/-- The items of R166 for a header. -/
def headerItems (h : TariffHeader) : List (Bool × BadItem) :=
  (h.length < 300 || 3600 < h.length || h.length % 60 != 0 || 86400 % h.length != 0, ⟨1, 1, 0⟩) ::
    (h.bandCount < 1 || 4 < h.bandCount, ⟨1, 2, 0⟩) :: (limitItems h ++ [(decide (127 < h.restMask), ⟨1, 4, 0⟩)])

theorem loadItems_eq (h : TariffHeader) (working rest : Option (List ChangePoint)) :
    loadItems h working rest =
      headerItems h ++ scheduleItems 2 h.length h.bandCount working ++ scheduleItems 3 h.length h.bandCount rest := rfl

/-- The limits that R166 item 3 examines are those of bands 1 to the band count. -/
theorem badLimit_eq_firstBadOf {h : TariffHeader} (count : 1 ≤ h.bandCount ∧ h.bandCount ≤ 4) :
    (badLimit h).map (BadItem.mk 1 3) = firstBadOf (limitItems h) := by
  unfold badLimit
  rw [← firstBadOf_map]
  obtain ⟨_, n, l1, l2, l3, l4, _⟩ := h
  obtain rfl | rfl | rfl | rfl : n = 1 ∨ n = 2 ∨ n = 3 ∨ n = 4 := by
    dsimp only at count
    omega
  all_goals simp [headerLimits, limitItems, topLimit]

theorem badHeader_eq_firstBadOf (h : TariffHeader) : badHeader h = firstBadOf (headerItems h) := by
  have length : (!intervalLengths.contains h.length) = true ↔
      (h.length < 300 || 3600 < h.length || h.length % 60 != 0 || 86400 % h.length != 0) = true := by
    simp [mem_intervalLengths_iff, daySeconds]
    omega
  unfold badHeader headerItems
  rw [firstBadOf_cons, firstBadOf_cons, firstBadOf_append]
  refine if_congr length rfl (ite_congr (by simp) (fun _ => rfl) fun count => ?_)
  rw [← badLimit_eq_firstBadOf (by simp at count; omega)]
  cases badLimit h with
  | some b => rfl
  | none => simp [Nat.lt_iff_add_one_le]

/-! ### A schedule (R166 items 5 to 8 and 9 to 12) -/

/-- A second does not follow that of the point before; that of the first point is not 0 (R166 item 7). -/
def misplacedAfter : Option Nat → Nat → Bool
  | none, second => second != 0
  | some before, second => second ≤ before

/-- The two items of R166 for point `k`, after the second of the point before. -/
def pointItems (part length bandCount k : Nat) (before : Option Nat) (c : ChangePoint) : List (Bool × BadItem) :=
  [(misplacedAfter before c.second || c.second % length != 0 || 86399 < c.second, ⟨part, 7, k⟩),
   (c.band < 1 || bandCount < c.band, ⟨part, 8, k⟩)]

theorem badPoint_cons (part length bandCount k : Nat) (before : Option Nat) (c : ChangePoint) (rest : List ChangePoint) :
    badPoint part length bandCount k before (c :: rest) =
      (firstBadOf (pointItems part length bandCount k before c)).or
        (badPoint part length bandCount (k + 1) (some c.second) rest) := by
  have late : 86399 < c.second ↔ daySeconds ≤ c.second := Iff.rfl
  cases before
  all_goals
    simp only [badPoint, pointItems, misplacedAfter, firstBadOf_cons, firstBadOf_nil, Bool.or_eq_true, bne_iff_ne,
      decide_eq_true_eq, or_assoc, late]
    split_ifs <;> rfl

/-- The items of `scheduleItems` for one numbered change point, with the schedule it stands in. -/
def numberedItems (part length bandCount : Nat) (points : List ChangePoint) (x : ChangePoint × Nat) :
    List (Bool × BadItem) :=
  [((if x.2 = 1 then x.1.second != 0 else x.1.second ≤ (points.getD (x.2 - 2) ⟨0, 0⟩).second)
      || x.1.second % length != 0 || 86399 < x.1.second, ⟨part, 7, x.2⟩),
   (x.1.band < 1 || bandCount < x.1.band, ⟨part, 8, x.2⟩)]

/-- The point before one that stands after `front` is the last of `front`; the first point has none. -/
theorem numberedItems_append (part length bandCount : Nat) (front rest : List ChangePoint) (c : ChangePoint) :
    numberedItems part length bandCount (front ++ c :: rest) (c, front.length + 1) =
      pointItems part length bandCount (front.length + 1) (front.getLast?.map ChangePoint.second) c := by
  obtain rfl | ⟨before, b, rfl⟩ := front.eq_nil_or_concat
  · rfl
  · simp [numberedItems, pointItems, misplacedAfter]

theorem badPoint_eq_firstBadOf (part length bandCount : Nat) (front points : List ChangePoint) :
    badPoint part length bandCount (front.length + 1) (front.getLast?.map ChangePoint.second) points =
      firstBadOf ((points.zipIdx (front.length + 1)).flatMap (numberedItems part length bandCount (front ++ points))) := by
  induction points generalizing front with
  | nil => rfl
  | cons c rest ih =>
    have later := ih (front ++ [c])
    simp only [List.length_append, List.length_cons, List.length_nil, List.getLast?_concat, Option.map_some,
      List.append_assoc, List.cons_append, List.nil_append] at later
    rw [badPoint_cons, List.zipIdx_cons, List.flatMap_cons, firstBadOf_append, numberedItems_append, ← later]

theorem badSchedule_some (part : Nat) (h : TariffHeader) (points : List ChangePoint) :
    badSchedule part h (some points) =
      if points.length < 1 ∨ 12 < points.length then some ⟨part, 6, 0⟩
      else badPoint part h.length h.bandCount 1 none points := rfl

theorem badSchedule_eq_firstBadOf (part : Nat) (h : TariffHeader) (received : Option (List ChangePoint)) :
    badSchedule part h received = firstBadOf (scheduleItems part h.length h.bandCount received) := by
  cases received with
  | none => rfl
  | some points =>
    have judged := badPoint_eq_firstBadOf part h.length h.bandCount [] points
    simp only [List.length_nil, List.nil_append, List.getLast?_nil, Option.map_none, Nat.zero_add] at judged
    unfold scheduleItems
    rw [badSchedule_some, firstBadOf_cons]
    exact if_congr (by simp) rfl judged

/-- A schedule that meets R162 has no bad item. -/
theorem ScheduleValid.badSchedule_eq_none {part : Nat} {h : TariffHeader} {points : List ChangePoint}
    (valid : ScheduleValid h.length h.bandCount points) : badSchedule part h (some points) = none := by
  obtain ⟨size, first, ascending, grid, bands⟩ := valid
  rw [badSchedule_some, if_neg (by omega)]
  cases points with
  | nil => rfl
  | cons c rest =>
    obtain ⟨above, ascending⟩ := List.pairwise_cons.mp ascending
    obtain ⟨⟨onGrid, inDay⟩, grid⟩ := List.forall_mem_cons.mp grid
    obtain ⟨banded, bands⟩ := List.forall_mem_cons.mp bands
    have later := (badPoint_after_eq_none_iff part h.length h.bandCount rest 2 c.second).mpr
      ⟨ascending, fun x member => ⟨above x member, grid x member, bands x member⟩⟩
    have own : firstBadOf (pointItems part h.length h.bandCount 1 none c) = none := by
      simp [pointItems, misplacedAfter, first c rest rfl]
      omega
    rw [badPoint_cons, own, later]
    rfl

/-! ### A whole load (R162, R166) -/

theorem firstBad_eq_firstBadOf (h : TariffHeader) (working rest : Option (List ChangePoint)) :
    firstBad h working rest = firstBadOf (loadItems h working rest) := by
  rw [loadItems_eq, firstBadOf_append, firstBadOf_append, ← badHeader_eq_firstBadOf, ← badSchedule_eq_firstBadOf,
    ← badSchedule_eq_firstBadOf]
  rfl

theorem firstBad_eq_none_iff (h : TariffHeader) (working rest : Option (List ChangePoint)) :
    firstBad h working rest = none ↔
      badHeader h = none ∧ badSchedule 2 h working = none ∧ badSchedule 3 h rest = none := by
  simp only [firstBad, Option.or_eq_none_iff, and_assoc]

/-- The limits a table takes from a header are those of the bands that validation examines. -/
theorem headerLimits_take (h : TariffHeader) :
    (headerLimits h).take h.bandCount =
      ([1, 2, 3, 4].take h.bandCount).map fun b => (headerLimits h).getD (b - 1) 0 := by
  rw [List.map_take]
  rfl

theorem badLimit_eq_none {h : TariffHeader} (low : ∀ l ∈ (headerLimits h).take h.bandCount, l ≤ topLimit) :
    badLimit h = none := by
  rw [headerLimits_take, List.forall_mem_map] at low
  exact List.find?_eq_none.mpr fun b member => by simpa using low b member

/-- The header of a table that meets R162 has no bad item. -/
theorem TariffTable.Valid.badHeader_eq_none {h : TariffHeader} {working rest : List ChangePoint}
    (valid : (builtTable h working rest).Valid) : badHeader h = none := by
  obtain ⟨length, count, ⟨-, low⟩, mask, -, -⟩ := valid
  have known : h.length ∈ intervalLengths := (mem_intervalLengths_iff h.length).mpr length
  simp only [builtTable] at count mask
  unfold badHeader
  rw [if_neg (by simpa using known), if_neg (by omega), badLimit_eq_none low]
  exact if_neg (by omega)

/-- Validation finds no bad item exactly where the table that the load builds meets R162. -/
theorem firstBad_eq_none_iff_valid (h : TariffHeader) (working rest : List ChangePoint) :
    firstBad h (some working) (some rest) = none ↔ (builtTable h working rest).Valid :=
  ⟨fun good => TariffTable.Valid.of_firstBad good, fun valid => (firstBad_eq_none_iff h _ _).mpr
    ⟨valid.badHeader_eq_none, ScheduleValid.badSchedule_eq_none valid.working,
      ScheduleValid.badSchedule_eq_none valid.rest⟩⟩

/-- A section that was not received is bad (R166 items 5 and 9). -/
theorem badSchedule_missing (part : Nat) (h : TariffHeader) : badSchedule part h none ≠ none :=
  Option.some_ne_none _

/-- Settles O45: validation walks the items of R166 in their order, and the items of a table that meets R162 are good. -/
theorem validationAcceptsValidTables : Obligations.ValidationAcceptsValidTables := by
  refine ⟨fun h w r => ⟨firstBad_eq_none_iff_valid h w r, fun good => ?_, fun good => ?_⟩, firstBad_eq_firstBadOf,
    fun _ _ _ => rfl⟩
  · obtain ⟨-, working, -⟩ := (firstBad_eq_none_iff _ _ _).mp good
    exact badSchedule_missing 2 h working
  · obtain ⟨-, -, rest⟩ := (firstBad_eq_none_iff _ _ _).mp good
    exact badSchedule_missing 3 h rest

end Sys2Proof.Machine
end

section
/-! PROOFS. The requests of the Tariff Table: the frames of a load (R165 to R167), LOCK TARIFF (R169) and READ TARIFF
(R170). -/

namespace Sys2Proof.Machine

open Sys2Proof.Claims

/-- The answer to a final frame (R166, R167): the first bad item, or the table staged; the load ends either way. -/
theorem State.finishLoad_replied (s : State) (h : TariffHeader) (working rest : Option (List ChangePoint)) :
    State.replied (s.finishLoad h working rest) =
      match firstBad h working rest with
      | some bad =>
        answered { s with tariff := { s.tariff with load := none } } .param
          (be 1 bad.part ++ be 1 bad.item ++ be 1 bad.index)
      | none =>
        answered { s with tariff := { s.tariff with
          staged := some (builtTable h (working.getD []) (rest.getD [])), load := none } } .done [] := by
  unfold State.finishLoad
  cases firstBad h working rest <;> rfl

section Requests

variable {s : State} (takes : s.port.takes = true)

include takes

theorem exec_loadTariff (part : TariffPart) (final : Bool) :
    exec (.loadTariff part final) s = .next (State.replied (s.serveLoadTariff part final)) :=
  congrArg Host.Outcome.next (State.loadFrame_taken s _ takes)

theorem exec_lockTariff :
    exec .lockTariff s = .next
      (answered { s with tariff := { s.tariff with load := none, locked := true } } .done []) :=
  congrArg Host.Outcome.next (State.lineRequest_replied takes _)

theorem exec_readTariff (selector : Nat) :
    exec (.readTariff selector) s = .next (State.replied (s.abandonLoad.serveReadTariff selector)) :=
  congrArg Host.Outcome.next (State.lineRequest_replied takes _)

end Requests

theorem yesNo_isSome {α : Type} (o : Option α) [Decidable (o = none)] : yesNo o.isSome = if o = none then 0 else 1 := by
  cases o <;> simp [yesNo]

/-- The bytes of a table in the answer to READ TARIFF, field by field (R170, R198). -/
def State.tariffImage (s : State) (t : TariffTable) : List Byte :=
  be 1 (if s.tariff.locked then 1 else 0) ++ be 1 (if s.tariff.staged = none then 0 else 1) ++ be 2 t.length ++
    be 1 t.bandCount ++ be 4 (t.limits.getD 0 0) ++ be 4 (t.limits.getD 1 0) ++ be 4 (t.limits.getD 2 0) ++
    be 4 (t.limits.getD 3 0) ++ be 1 t.restMask ++
    (be 1 t.working.length ++ t.working.flatMap fun c => be 4 c.second ++ be 1 c.band) ++
    (be 1 t.rest.length ++ t.rest.flatMap fun c => be 4 c.second ++ be 1 c.band)

theorem State.tariffImage_eq (s : State) (t : TariffTable) :
    be 1 (yesNo s.tariff.locked) ++ be 1 (yesNo s.tariff.staged.isSome) ++ t.bytes = s.tariffImage t := by
  simp only [State.tariffImage, TariffTable.bytes, scheduleBytes, yesNo_isSome, List.append_assoc]
  rfl

/-- The answer to READ TARIFF: the active table, the staged one where there is one, or a selector that names neither. -/
theorem State.serveReadTariff_replied (s : State) (selector : Nat) :
    State.replied (s.serveReadTariff selector) =
      if selector = 1 then answered s .done (s.tariffImage s.tariff.active)
      else if selector = 2 then
        match s.tariff.staged with
        | none => answered s .noRecord []
        | some t => answered s .done (s.tariffImage t)
      else answered s .param [] := by
  unfold State.serveReadTariff
  simp only [State.tariffImage_eq]
  by_cases active : selector = 1
  · subst active
    rfl
  by_cases staged : selector = 2
  · subst staged
    have selected : s.tariff.selected 2 = s.tariff.staged := rfl
    rw [if_neg (by decide), if_neg (by decide), if_pos rfl, selected]
    cases s.tariff.staged <;> rfl
  · rw [if_pos ⟨active, staged⟩, if_neg active, if_neg staged]
    rfl

/-- Settles O44: a frame is answered by the load in progress, the section it carries and its end marker; LOCK TARIFF and
READ TARIFF abandon the load first. -/
theorem tariffRequestsFollowLoad : Obligations.TariffRequestsFollowLoad := by
  refine ⟨fun s part final takes => ?load, fun s selector takes => ⟨exec_lockTariff takes, ?read⟩⟩
  case load =>
    rw [exec_loadTariff takes]
    refine congrArg Host.Outcome.next ?_
    unfold State.serveLoadTariff
    cases s.tariff.load with
    | none =>
      cases part with
      | header h =>
        dsimp only
        rw [apply_ite State.replied, apply_ite State.replied, State.finishLoad_replied]
        rfl
      | working points | rest points =>
        rw [apply_ite State.replied]
        rfl
    | some load =>
      cases load with
      | expectWorking h =>
        cases part with
        | working points =>
          dsimp only
          rw [apply_ite State.replied, State.finishLoad_replied]
          rfl
        | header _ | rest _ => rfl
      | expectRest h working =>
        cases part with
        | rest points =>
          dsimp only
          rw [apply_ite State.replied, State.finishLoad_replied]
          rfl
        | header _ | working _ => rfl
  case read =>
    rw [exec_readTariff takes, State.serveReadTariff_replied]
    rfl

end Sys2Proof.Machine
end

section
/-! PROOFS. The Attention Unit on its own (R172 to R178): the level of ATTN, a source written, the marks and the first source
of GET ATTENTION, and the three requests of the line master. -/

namespace Sys2Proof.Machine

open Sys2Proof.Claims

/-! ### The source codes and the level of ATTN (R172, R175) -/

theorem Source.code_bounds (source : Source) : 1 ≤ source.code ∧ source.code ≤ 12 := by
  cases source <;> decide

theorem sourceCodes_eq_range' : sourceCodes = List.range' 1 12 := rfl

theorem mem_sourceCodes_iff (c : Nat) : c ∈ sourceCodes ↔ 1 ≤ c ∧ c ≤ 12 := by
  rw [sourceCodes_eq_range', List.mem_range'_1]
  omega

theorem isSourceCode_iff (c : Nat) : isSourceCode c = true ↔ 1 ≤ c ∧ c ≤ 12 := by
  simp [isSourceCode]

section Record

variable {a : AttentionUnit} {c : Nat}

theorem AttentionUnit.enabled_of_low (low : 1 ≤ c) : a.enabled c = a.mask.getLsbD (c - 1) := by
  simp [AttentionUnit.enabled, low]

theorem AttentionUnit.waiting_iff : a.waiting c = true ↔ (a.source c).pending = true ∧ a.enabled c = true :=
  Bool.and_eq_true_iff

theorem AttentionUnit.waiting_eq_false_iff :
    a.waiting c = false ↔ ((a.source c).pending = true → a.enabled c = false) := by
  rw [← Bool.not_eq_true, AttentionUnit.waiting_iff, not_and, Bool.not_eq_true]

/-- The level of ATTN that R175 gives. -/
def AttentionUnit.Settled (a : AttentionUnit) : Prop :=
  a.attn = true ↔ ∃ c, 1 ≤ c ∧ c ≤ 12 ∧ (a.source c).pending = true ∧ a.enabled c = true

theorem AttentionUnit.settle_settled (a : AttentionUnit) : a.settle.Settled := by
  refine List.any_eq_true.trans (exists_congr fun c => ?_)
  rw [mem_sourceCodes_iff, and_assoc]
  exact and_congr_right fun _ => and_congr_right fun _ => AttentionUnit.waiting_iff

theorem AttentionUnit.put_settled (a : AttentionUnit) (c : Nat) (r : SourceRecord) : (a.put c r).Settled :=
  AttentionUnit.settle_settled _

theorem AttentionUnit.withMask_settled (a : AttentionUnit) (marks : Nat) : (a.withMask marks).Settled :=
  AttentionUnit.settle_settled _

/-! ### A source raised (R173) -/

theorem SourceRecord.raised_first {r : SourceRecord} (quiet : r.pending = false) (detail : Nat) :
    r.raised detail = ⟨true, 1, detail⟩ := by
  simp [SourceRecord.raised, quiet]

theorem SourceRecord.raised_again {r : SourceRecord} (pending : r.pending = true) (detail : Nat) :
    r.raised detail = ⟨true, min (r.count + 1) 255, r.detail⟩ := by
  simp [SourceRecord.raised, saturate, pending]

theorem State.raise_source_same (s : State) (source : Source) (detail : Nat) :
    (s.raise source detail).attention.source source.code = (s.attention.source source.code).raised detail :=
  AttentionUnit.source_put_same _ _ _ source.code_bounds.1 source.code_bounds.2

end Record

/-- Settles O46: the source takes the record of one raising more, and ATTN is settled with it. -/
theorem raisingCountsOccurrences : Obligations.RaisingCountsOccurrences := by
  intro s source detail
  dsimp only
  rw [State.raise_source_same]
  refine ⟨rfl, rfl, fun quiet => SourceRecord.raised_first quiet detail, fun pending below => ?later,
    fun pending full => ?full, fun c other => State.raise_source_other s source detail c other,
    AttentionUnit.put_settled _ _ _⟩
  case later => rw [SourceRecord.raised_again pending, min_eq_left below]
  case full => rw [SourceRecord.raised_again pending, full]; rfl

/-! ### ACK ATTENTION (R177, R178) -/

/-- The checks of ACK ATTENTION in their order, and what it writes where all pass. -/
theorem State.serveAck_eq (s : State) (code count : Nat) :
    s.serveAck code count =
      let r := s.attention.source code
      if code < 1 ∨ 12 < code then s.answer .param
      else if r.pending = false then s.answer .late
      else if r.count ≠ count then s.answer .late
      else (s.withAttention (s.attention.put code r.acknowledged)).answer .done := by
  have outside : (!isSourceCode code) = true ↔ code < 1 ∨ 12 < code := by
    rw [Bool.not_eq_true', ← Bool.not_eq_true, isSourceCode_iff]
    omega
  simp only [State.serveAck, AttentionUnit.ackStatus, outside, Bool.not_eq_true']
  split_ifs <;> simp_all

theorem SourceRecord.acknowledged_of_count {r : SourceRecord} {count : Nat} (matching : r.count = count) :
    r.acknowledged = if count = 255 then ⟨true, 1, 0⟩ else ⟨false, 0, 0⟩ :=
  matching ▸ rfl

theorem exec_ackAttention {s : State} (takes : s.port.takes = true) (code count : Nat) :
    exec (.ackAttention code count) s = .next (
      let u := s.abandonLoad
      let r := s.attention.source code
      if code < 1 ∨ 12 < code then answered u .param []
      else if r.pending = false then answered u .late []
      else if r.count ≠ count then answered u .late []
      else if count = 255 then answered { u with attention := s.attention.put code ⟨true, 1, 0⟩ } .done []
      else answered { u with attention := s.attention.put code ⟨false, 0, 0⟩ } .done []) := by
  refine congrArg Host.Outcome.next ((State.lineRequest_replied takes _).trans ?_)
  rw [State.serveAck_eq, State.abandonLoad_attention]
  dsimp only
  split
  · rfl
  split
  · rfl
  split
  · rfl
  next matching =>
  rw [SourceRecord.acknowledged_of_count (not_not.mp matching)]
  split <;> rfl

/-- Settles O47: the request by its checks, and the writing of one source. -/
theorem acknowledgementMatchesCount : Obligations.AcknowledgementMatchesCount :=
  fun _ code count takes => ⟨exec_ackAttention takes code count, fun low high _ =>
    ⟨AttentionUnit.source_put_same _ _ _ low high, fun _ other => AttentionUnit.source_put_other _ _ _ _ other, rfl,
      AttentionUnit.put_settled _ _ _⟩⟩

/-! ### SET ATTENTION MASK (R174) -/

section Mask

variable {s : State} {marks : Nat} (takes : s.port.takes = true)

include takes

theorem exec_setAttentionMask_refused (high : 4096 ≤ marks) :
    exec (.setAttentionMask marks) s = .next (answered s.abandonLoad .param []) := by
  refine congrArg Host.Outcome.next ((State.lineRequest_replied takes _).trans ?_)
  rw [State.serveSetMask, if_pos high]
  rfl

theorem exec_setAttentionMask_stored (fits : marks < 4096) :
    exec (.setAttentionMask marks) s =
      .next (answered { s.abandonLoad with attention := s.attention.withMask marks } .done []) := by
  refine congrArg Host.Outcome.next ((State.lineRequest_replied takes _).trans ?_)
  rw [State.serveSetMask, if_neg (not_le.mpr fits)]
  rfl

end Mask

theorem AttentionUnit.withMask_enabled (a : AttentionUnit) (marks : Nat) {c : Nat} (low : 1 ≤ c) (high : c ≤ 12) :
    (a.withMask marks).enabled c = marks.testBit (c - 1) := by
  have inside : c - 1 < 12 := by omega
  rw [AttentionUnit.enabled_of_low low]
  exact (BitVec.getLsbD_ofNat _ _ _).trans (by simp [inside])

/-- The level of ATTN under a mask just set, read off its marks. -/
theorem AttentionUnit.withMask_attn_iff (a : AttentionUnit) (marks : Nat) :
    (a.withMask marks).attn = true ↔
      ∃ c, 1 ≤ c ∧ c ≤ 12 ∧ ((a.withMask marks).source c).pending = true ∧ marks.testBit (c - 1) = true := by
  refine (a.withMask_settled marks).trans (exists_congr fun c => ?_)
  refine and_congr_right fun low => and_congr_right fun high => and_congr_right fun _ => ?_
  rw [a.withMask_enabled marks low high]

/-! ### GET ATTENTION (R176) -/

/-- A number put together from one flag per bit has those flags as its bits. -/
theorem testBit_sum_flagBit (f : Nat → Bool) (n : Nat) :
    ((List.range n).map fun i => flagBit (f i) i).sum < 2 ^ n ∧
      ∀ k < n, ((List.range n).map fun i => flagBit (f i) i).sum.testBit k = f k := by
  induction n with
  | zero => exact ⟨Nat.one_pos, fun k below => absurd below k.not_lt_zero⟩
  | succ n ih =>
    obtain ⟨bound, bits⟩ := ih
    rw [List.range_succ, List.map_append, List.sum_append, List.map_singleton, List.sum_singleton, Nat.add_comm]
    generalize ((List.range n).map fun i => flagBit (f i) i).sum = m at bound bits ⊢
    cases flag : f n with
    | false =>
      have zero : flagBit false n + m = m := Nat.zero_add m
      rw [zero]
      refine ⟨bound.trans (Nat.pow_lt_pow_succ one_lt_two), fun k below => ?_⟩
      rcases Nat.lt_succ_iff_lt_or_eq.mp below with lower | rfl
      · exact bits k lower
      · rw [flag, Nat.testBit_lt_two_pow bound]
    | true =>
      have top : flagBit true n + m = 2 ^ n + m := rfl
      rw [top]
      refine ⟨by rw [Nat.pow_succ]; omega, fun k below => ?_⟩
      rcases Nat.lt_succ_iff_lt_or_eq.mp below with lower | rfl
      · rw [Nat.testBit_two_pow_add_gt lower, bits k lower]
      · rw [flag, Nat.testBit_two_pow_add_eq, Nat.testBit_lt_two_pow bound, Bool.not_false]

theorem AttentionUnit.pendingMarks_testBit (a : AttentionUnit) {c : Nat} (low : 1 ≤ c) (high : c ≤ 12) :
    a.pendingMarks.testBit (c - 1) = (a.source c).pending := by
  have bit := (testBit_sum_flagBit (fun i => (a.source (i + 1)).pending) 12).2 (c - 1) (by omega)
  rwa [Nat.sub_add_cancel low] at bit

/-- The code, count and detail of GET ATTENTION are those of the waiting source of the lowest code, and zeros where no
source waits. -/
theorem AttentionUnit.firstBytes_lowest (a : AttentionUnit) :
    ∃ c n d, a.firstBytes = be 1 c ++ be 1 n ++ be 2 d ∧
      ((c = 0 ∧ n = 0 ∧ d = 0 ∧ ∀ k, 1 ≤ k → k ≤ 12 → a.waiting k = false) ∨
        (1 ≤ c ∧ c ≤ 12 ∧ a.source c = ⟨true, n, d⟩ ∧ a.enabled c = true ∧
          ∀ k, 1 ≤ k → k < c → a.waiting k = false)) := by
  unfold AttentionUnit.firstBytes
  cases first : a.first with
  | none =>
    refine ⟨0, 0, 0, rfl, .inl ⟨rfl, rfl, rfl, fun k low high => ?_⟩⟩
    exact Bool.not_eq_true _ ▸ List.find?_eq_none.mp first k ((mem_sourceCodes_iff k).mpr ⟨low, high⟩)
  | some c =>
    have found : (List.range' 1 12).find? a.waiting = some c := first
    obtain ⟨waits, member, lowest⟩ := List.find?_range'_eq_some.mp found
    obtain ⟨low, high⟩ := (mem_sourceCodes_iff c).mp member
    obtain ⟨pending, enabled⟩ := AttentionUnit.waiting_iff.mp waits
    refine ⟨c, _, _, rfl, .inr ⟨low, high, ?_, enabled, fun k low below => ?_⟩⟩
    · rw [← pending]
    · simpa using lowest k low below

/-- Settles O48: the mask by its range, and the first source with the marks and the mask behind it. -/
theorem maskAndGetAttention : Obligations.MaskAndGetAttention := by
  refine ⟨fun s marks takes => ⟨exec_setAttentionMask_refused takes, fun fits =>
    ⟨s.attention.withMask marks, exec_setAttentionMask_stored takes fits, rfl, Nat.mod_eq_of_lt fits,
      s.attention.withMask_attn_iff marks⟩⟩, fun s takes => ?_⟩
  obtain ⟨c, n, d, bytes, first⟩ := s.attention.firstBytes_lowest
  simp only [AttentionUnit.waiting_eq_false_iff] at first
  refine ⟨c, n, d, ?_, fun k => s.attention.pendingMarks_testBit, first⟩
  refine congrArg Host.Outcome.next ((State.lineRequest_replied takes _).trans ?_)
  rw [← bytes]
  rfl

end Sys2Proof.Machine
end

section
/-! PROOFS. What the operations of the block do to the Attention Unit: they raise sources, one after another (R173), and
write nothing else of it. -/

namespace Sys2Proof.Machine

/-! ### Raisings -/

/-- One Attention Unit reached from another by raisings alone (R173); a source that carries no detail is raised with 0
(chapter 9.1). -/
inductive AttentionUnit.Raised (a : AttentionUnit) : AttentionUnit → Prop
  | refl : Raised a a
  | raise {b : AttentionUnit} (source : Source) (detail : Nat) (fits : source.code ∉ [2, 6, 9] ∨ detail = 0)
      (before : Raised a b) : Raised a (b.put source.code ((b.source source.code).raised detail))

theorem AttentionUnit.Raised.trans {a b c : AttentionUnit} (first : a.Raised b) (second : b.Raised c) : a.Raised c := by
  induction second with
  | refl => exact first
  | raise source detail fits _ ih => exact ih.raise source detail fits

/-- What separates the Attention Units of two states is raisings alone. -/
def State.Raises (s t : State) : Prop :=
  s.attention.Raised t.attention

section Operations

variable {s t u : State}

theorem State.Raises.of_eq (same : t.attention = s.attention) : s.Raises t := by
  unfold State.Raises
  rw [same]
  exact .refl

theorem State.Raises.trans (first : s.Raises t) (second : t.Raises u) : s.Raises u :=
  AttentionUnit.Raised.trans first second

theorem State.Raises.raise (before : s.Raises t) (source : Source) (detail : Nat)
    (fits : source.code ∉ [2, 6, 9] ∨ detail = 0) : s.Raises (t.raise source detail) :=
  AttentionUnit.Raised.raise source detail fits before

theorem State.putPot_raises (s : State) (p : Nat) (r : PotRecord) : s.Raises (s.putPot p r) :=
  .of_eq rfl

theorem State.putUnit_raises (s : State) (u : Nat) (r : UnitRecord) : s.Raises (s.putUnit u r) :=
  .of_eq rfl

/-! ### Evaluations and grants (R48, R50, R112, R113, R119) -/

theorem State.Raises.evaluate (before : s.Raises t) (cycle : Bool) : s.Raises (t.evaluate cycle) := by
  unfold State.Raises
  rw [State.evaluate_attention]
  split
  · exact before.raise .voltageLimit 0 (.inr rfl)
  · exact before

theorem State.Raises.eventEvaluation (before : s.Raises t) : s.Raises t.eventEvaluation :=
  before.evaluate false

theorem State.grant_raises (s : State) (p k : Nat) : s.Raises (s.grant p k) :=
  State.Raises.eventEvaluation (.of_eq rfl)

theorem State.grantLoop_raises (n : Nat) (s : State) : s.Raises (State.grantLoop n s) := by
  induction n generalizing s with
  | zero => exact .of_eq rfl
  | succ n ih =>
    unfold State.grantLoop
    split
    · split
      · exact (s.grant_raises _ _).trans (ih _)
      · exact .of_eq rfl
    · exact .of_eq rfl

theorem State.Raises.grantEvaluation (before : s.Raises t) : s.Raises t.grantEvaluation :=
  before.trans (State.grantLoop_raises 4 t)

theorem State.cycleWork_raises (s : State) (arbiterFirst : Bool) : s.Raises (s.cycleWork arbiterFirst) := by
  have start : s.Raises s := .of_eq rfl
  cases arbiterFirst with
  | true => exact start.grantEvaluation.evaluate true
  | false => exact (start.evaluate true).grantEvaluation

theorem State.compareHead_raises (s : State) : s.Raises s.compareHead :=
  .of_eq (by rw [State.compareHead_frame])

/-! ### Switching (R65, R67, R71, R74, R75, R77) -/

theorem State.endSwitch_raises (s : State) (p : Nat) (result : SwitchResult) : s.Raises (s.endSwitch p result) :=
  .of_eq (by rw [State.endSwitch_frame])

theorem State.expireSwitch_raises (s : State) (p : Nat) (result : SwitchResult) : s.Raises (s.expireSwitch p result) :=
  (s.endSwitch_raises p result).raise .switchExpired p (.inl (by decide))

theorem State.applySwitch_raises (s : State) (p : Nat) : s.Raises (s.applySwitch p) := by
  unfold State.applySwitch
  split
  · split <;> exact .of_eq rfl
  · exact .of_eq rfl

theorem State.completeSwitch_raises (s : State) (p : Nat) : s.Raises (s.completeSwitch p) :=
  ((s.applySwitch_raises p).trans (State.endSwitch_raises _ p _)).raise .switchCompleted p (.inl (by decide))

theorem State.startSwitch_raises (s : State) (p : Nat) (d : Direction) : s.Raises (s.startSwitch p d) := by
  rw [State.startSwitch_eq]
  split
  · exact State.Raises.eventEvaluation (.of_eq rfl)
  · exact .of_eq rfl

/-! ### Permits (R53, R55, R56) -/

theorem State.freeSlotOf_raises (s : State) (p : Nat) : s.Raises (s.freeSlotOf p) :=
  .of_eq (by rw [State.freeSlotOf_frame])

theorem State.endQuench_raises (s : State) (p : Nat) : s.Raises (s.endQuench p) :=
  s.freeSlotOf_raises p

theorem State.settleExpired_raises (s : State) (p : Nat) : s.Raises (s.settleExpired p) :=
  .of_eq rfl

theorem State.permitExpired_raises (s : State) (k p : Nat) : s.Raises (s.permitExpired k p) :=
  State.Raises.raise (.of_eq rfl) .quenchOverrun p (.inl (by decide))

/-! ### The watch and the reports of a pot (R14, R15, R29 to R37) -/

theorem State.handedOver_raises (s : State) (p : Nat) : s.Raises (s.handedOver p) :=
  State.Raises.raise (t := (s.cancelByEffect p).enterQuenchQueue p)
    (.of_eq (by rw [State.cancelByEffect_frame]; rfl)) .aeConfirmed p (.inl (by decide))

theorem State.confirmEffect_raises (s : State) (p : Nat) : s.Raises (s.confirmEffect p) := by
  rw [State.confirmEffect_eq]
  exact State.Raises.grantEvaluation ((s.putPot_raises p _).trans (State.handedOver_raises _ p))

theorem State.releaseClaim_raises (s : State) (p : Nat) : s.Raises (s.releaseClaim p) := by
  unfold State.releaseClaim
  split
  · exact .of_eq rfl
  · exact State.Raises.grantEvaluation (s.freeSlotOf_raises p)
  · exact .of_eq rfl
  · exact .of_eq rfl

theorem State.endEffect_raises (s : State) (p : Nat) : s.Raises (s.endEffect p) :=
  s.releaseClaim_raises p

theorem State.examineReport_raises (s : State) (p : Nat) : s.Raises (s.examineReport p) := by
  rcases s.examineReport_cases p with h | ⟨r, h, -⟩ | h | h <;> rw [h]
  · exact .of_eq rfl
  · exact .of_eq rfl
  · exact s.confirmEffect_raises p
  · exact s.endEffect_raises p

theorem State.acceptReport_raises (s : State) (p v : Nat) : s.Raises (s.acceptReport p v) := by
  unfold State.acceptReport
  dsimp only
  split
  · exact State.examineReport_raises (s.putPot p _) p
  · exact .of_eq rfl

theorem State.takeItems_raises (node : Nat) (items : List ReportItem) (s : State) :
    s.Raises (State.takeItems node items s).1 := by
  induction items generalizing s with
  | nil => exact .of_eq rfl
  | cons i rest ih =>
    refine State.Raises.trans ?_ (ih (s.takeItem node i).1)
    unfold State.takeItem
    dsimp only
    split
    · exact s.acceptReport_raises _ _
    · exact .of_eq rfl

theorem State.escalate_raises (s : State) (p : Nat) : s.Raises (s.escalate p) := by
  have raised : s.Raises ((s.putPot p { s.pot p with aeClass := .escalated }).raise .aeEscalated p) :=
    (s.putPot_raises p _).raise .aeEscalated p (.inl (by decide))
  unfold State.escalate
  dsimp only
  split
  · exact State.Raises.grantEvaluation raised
  · exact raised

/-! ### Units (R87, R92, R96, R97) -/

theorem State.Raises.raiseIf (before : s.Raises t) (c : Bool) (source : Source) (detail : Nat)
    (fits : source.code ∉ [2, 6, 9] ∨ detail = 0) : s.Raises (t.raiseIf c source detail) := by
  cases c
  · exact before
  · exact before.raise source detail fits

theorem State.acceptUnitReport_raises (s : State) (u measured temperature : Nat) (flowOk closed : Bool) :
    s.Raises (s.acceptUnitReport u measured temperature flowOk closed) := by
  have raised : ∀ (r : UnitRecord) (trip derate : Bool),
      s.Raises (((s.putUnit u r).raiseIf trip .unitTrip u).raiseIf derate .unitDerated u) := fun r trip derate =>
    ((s.putUnit_raises u r).raiseIf trip .unitTrip u (.inl (by decide))).raiseIf derate .unitDerated u
      (.inl (by decide))
  unfold State.acceptUnitReport
  dsimp only
  split
  · exact (raised _ _ _).eventEvaluation
  · exact raised _ _ _

theorem State.tripUnit_raises (s : State) (u : Nat) (cause : TripCause) : s.Raises (s.tripUnit u cause) :=
  ((s.putUnit_raises u _).raise .unitTrip u (.inl (by decide))).eventEvaluation

theorem State.loseUnit_raises (s : State) (u : Nat) : s.Raises (s.loseUnit u) :=
  ((s.putUnit_raises u _).raise .unitTrip u (.inl (by decide))).eventEvaluation

theorem State.silenceUnit_raises (s : State) (u : Nat) : s.Raises (s.silenceUnit u) := by
  rw [State.silenceUnit_eq]
  split
  · exact State.Raises.eventEvaluation (.of_eq rfl)
  · exact .of_eq rfl

/-! ### The tick, the close of an interval and a miss (R145, R149, R154, R186) -/

theorem State.tick_raises (s : State) (shed : Bool) : s.Raises (s.tick shed) := by
  have start : s.Raises s := .of_eq rfl
  unfold State.Raises
  by_cases closes : s.meter.interval.elapsed + 1 = s.meter.interval.planned
  · rw [State.tick_closing closes]
    exact start.raise .intervalClosed 0 (.inr rfl)
  · rw [State.tick_projecting closes]
    dsimp only
    split
    · exact start.raise .demandLimiting 0 (.inr rfl)
    · exact start

theorem State.serveSetClock_raises (s : State) (time day : Nat) : s.Raises (s.serveSetClock time day).1 := by
  unfold State.serveSetClock
  split
  · exact .of_eq rfl
  · rw [State.closed_eq]
    exact State.Raises.raise (.of_eq rfl) .intervalClosed 0 (.inr rfl)

theorem State.countMiss_raises (s : State) : s.Raises s.countMiss := by
  unfold State.countMiss
  dsimp only
  split
  · split
    · exact State.Raises.raise (.of_eq rfl) .nodeAbsent _ (.inl (by decide))
    · exact .of_eq rfl
  · exact .of_eq rfl

/-! ### Requests -/

theorem State.loadFrame_raises (s : State) (serve : State → State × Reply) (served : ∀ t : State, t.Raises (serve t).1) :
    s.Raises (s.loadFrame serve) :=
  State.loadFrame_keeps s.Raises s serve (.of_eq rfl) (fun t before => before.trans (served t)) fun _ _ _ before => before

theorem State.lineRequest_raises (s : State) (serve : State → State × Reply)
    (served : ∀ t : State, t.Raises (serve t).1) : s.Raises (s.lineRequest serve) :=
  s.loadFrame_raises _ fun t => served t.abandonLoad

theorem State.fieldRequest_raises (s : State) (kinds : List NodeKind) (serve : Nat → State → State × Reply)
    (served : ∀ node (t : State), t.Raises (serve node t).1) : s.Raises (s.fieldRequest kinds serve) :=
  State.fieldRequest_keeps s.Raises s kinds serve (.of_eq rfl) (fun _ before => before)
    (fun node t before => before.trans (served node t)) fun _ _ before => before

theorem State.serveLoadTariff_raises (s : State) (part : TariffPart) (final : Bool) :
    s.Raises (s.serveLoadTariff part final).1 := by
  have finished : ∀ h working rest, s.Raises (s.finishLoad h working rest).1 := by
    intro h working rest
    unfold State.finishLoad
    split <;> exact .of_eq rfl
  unfold State.serveLoadTariff
  split
  · split
    · exact .of_eq rfl
    · cases part
      case header h => cases final; exacts [.of_eq rfl, finished h _ _]
      all_goals exact .of_eq rfl
  · cases part
    case working => cases final; exacts [.of_eq rfl, finished _ _ _]
    all_goals exact .of_eq rfl
  · cases part
    case rest => cases final; exacts [.of_eq rfl, finished _ _ _]
    all_goals exact .of_eq rfl

theorem State.serveSetParam_raises (s : State) (i v : Nat) : s.Raises (s.serveSetParam i v).1 := by
  unfold State.serveSetParam
  dsimp only [State.answer]
  split_ifs
  exacts [State.Raises.eventEvaluation (.of_eq rfl), .of_eq rfl, .of_eq rfl]

theorem State.serveUnitReport_raises (s : State) (node u measured temperature : Nat) (flowOk closed : Bool) :
    s.Raises (s.serveUnitReport node u measured temperature flowOk closed).1 := by
  unfold State.serveUnitReport
  dsimp only
  split
  · exact s.acceptUnitReport_raises u _ _ _ _
  · exact .of_eq rfl

theorem State.serveQuenchEnd_raises (s : State) (node p tag : Nat) : s.Raises (s.serveQuenchEnd node p tag).1 := by
  unfold State.serveQuenchEnd
  dsimp only
  split
  · exact (s.endQuench_raises p).grantEvaluation
  · exact .of_eq rfl

theorem State.serveSwitchRequest_raises (s : State) (node p tag d : Nat) :
    s.Raises (s.serveSwitchRequest node p tag d).1 := by
  unfold State.serveSwitchRequest
  dsimp only
  split
  · exact s.startSwitch_raises p _
  · exact .of_eq rfl

theorem State.serveSwitchDone_raises (s : State) (node p tag : Nat) : s.Raises (s.serveSwitchDone node p tag).1 := by
  unfold State.serveSwitchDone
  dsimp only
  split
  · exact s.completeSwitch_raises p
  · exact .of_eq rfl

theorem State.serveSwitchCancel_raises (s : State) (node p tag : Nat) : s.Raises (s.serveSwitchCancel node p tag).1 := by
  unfold State.serveSwitchCancel
  dsimp only
  split
  · exact s.endSwitch_raises p _
  · exact .of_eq rfl

end Operations

/-! ### Every command -/

/-- The commands that write the Attention Unit otherwise than by raisings: RESET, ACK ATTENTION and SET ATTENTION MASK. -/
def settlesAttention : Instr → Bool
  | .reset | .ackAttention _ _ | .setAttentionMask _ => true
  | _ => false

/-- Every other command raises sources at most (R173). -/
theorem exec_raises (c : Instr) (s t : State) (other : settlesAttention c = false) (done : exec c s = .next t) :
    s.Raises t := by
  cases c <;> cases other <;> cases done
  case dispatchCycle arbiterFirst =>
    exact (State.cycleWork_raises s.dividerAdvanced arbiterFirst).trans (State.compareHead_raises _)
  case meteringTick shed => exact s.tick_raises shed
  case dayRollover shed | intervalClose shed | curtailmentExpiry shed => split; exacts [s.tick_raises shed, .of_eq rfl]
  case potSilence p =>
    split
    exacts [(s.putPot_raises p _).raise .potSilent p (.inl (by decide)), .of_eq rfl]
  case startHoldExpiry =>
    dsimp only
    split <;> exact .of_eq rfl
  case escalation p => split; exacts [s.escalate_raises p, .of_eq rfl]
  case settleExpiry p => split; exacts [(s.settleExpired_raises p).grantEvaluation, .of_eq rfl]
  case permitExpiry =>
    split
    · split; exacts [(s.permitExpired_raises _ _).grantEvaluation, .of_eq rfl]
    · exact .of_eq rfl
  case rampFailure | windowExpiry =>
    split
    · split; exacts [s.expireSwitch_raises _ _, .of_eq rfl]
    · exact .of_eq rfl
  case flowGraceExpiry u => split; exacts [s.tripUnit_raises u _, .of_eq rfl]
  case unitSilence u => split; exacts [s.silenceUnit_raises u, .of_eq rfl]
  case unitLoss u => split; exacts [s.loseUnit_raises u, .of_eq rfl]
  case miss => split; exacts [s.countMiss_raises, .of_eq rfl]
  case turn | idleTime | fieldFrameGap | lmFrameRefused | rangeFrameNext | lmReplyEnd => split <;> exact .of_eq rfl
  case fieldFrameRefused =>
    dsimp only
    split
    · split <;> exact .of_eq rfl
    · exact .of_eq rfl
  case lmBreak | lmFrameGap | lmrxIdleReturn => exact .of_eq rfl
  case pass => exact s.fieldRequest_raises _ _ fun _ _ => .of_eq rfl
  case potReport items => exact s.fieldRequest_raises _ _ fun node t => State.takeItems_raises node items t
  case switchRequest => exact s.fieldRequest_raises _ _ fun node t => t.serveSwitchRequest_raises node _ _ _
  case switchDone => exact s.fieldRequest_raises _ _ fun node t => t.serveSwitchDone_raises node _ _
  case switchCancel => exact s.fieldRequest_raises _ _ fun node t => t.serveSwitchCancel_raises node _ _
  case quenchEnd => exact s.fieldRequest_raises _ _ fun node t => t.serveQuenchEnd_raises node _ _
  case unitReport => exact s.fieldRequest_raises _ _ fun node t => t.serveUnitReport_raises node _ _ _ _ _
  case readPotRange =>
    unfold State.takeRange
    dsimp only
    split_ifs <;> exact .of_eq rfl
  case loadTariff part final => exact s.loadFrame_raises _ fun t => t.serveLoadTariff_raises part final
  case setClock => exact s.lineRequest_raises _ fun t => t.serveSetClock_raises _ _
  case setParam => exact s.lineRequest_raises _ fun t => t.serveSetParam_raises _ _
  case readNodes | setTarget | readLine | readMeter | readPeriod | closePeriod | lockTariff | getAttention =>
    exact s.lineRequest_raises _ fun _ => .of_eq rfl
  case admitPot | retirePot | assignOwner | readPot | readUnit | addNode | dropNode | readParam | curtail | cancelCurtail |
      readTariff =>
    refine s.lineRequest_raises _ fun t => .of_eq ?_
    simp only [State.serveAdmit, State.serveRetire, State.serveAssign, State.serveReadPot, State.serveReadUnit,
      State.serveAddNode, State.serveDropNode, State.serveReadParam, State.serveCurtail, State.serveCancelCurtail,
      State.serveReadTariff]
    repeat' split
    all_goals rfl
  case tripUnit u =>
    refine s.lineRequest_raises _ fun t => ?_
    unfold State.serveTripUnit
    split_ifs
    exacts [.of_eq rfl, t.tripUnit_raises u _, .of_eq rfl]
  case defineUnit | restoreUnit =>
    refine s.lineRequest_raises _ fun t => ?_
    simp only [State.serveDefineUnit, State.serveRestoreUnit]
    split_ifs
    exacts [(t.putUnit_raises _ _).eventEvaluation, .of_eq rfl]
  case removeUnit u =>
    refine s.lineRequest_raises _ fun t => ?_
    unfold State.serveRemoveUnit
    split_ifs
    exacts [.of_eq rfl, (t.putUnit_raises u _).eventEvaluation, .of_eq rfl]
  case run | hold =>
    refine s.lineRequest_raises _ fun t => ?_
    simp only [State.serveRun, State.serveHold]
    split_ifs
    exacts [.of_eq rfl, .of_eq rfl, State.Raises.eventEvaluation (.of_eq rfl)]
  case resume =>
    refine s.lineRequest_raises _ fun t => ?_
    unfold State.serveResume
    split_ifs
    exacts [.of_eq rfl, State.Raises.eventEvaluation (.of_eq rfl)]

end Sys2Proof.Machine
end

section
/-! PROOFS. Every step keeps the agreement of the Attention Unit (R172, R173, R175): raisings keep it, and so do RESET, ACK
ATTENTION and SET ATTENTION MASK. -/

namespace Sys2Proof.Machine

/-! ### The agreement, source by source -/

/-- A count and a detail that fit the pending mark of a source (R172, chapter 9.1). -/
structure SourceRecord.Fits (r : SourceRecord) (code : Nat) : Prop where
  pendingCount : r.pending = true → 1 ≤ r.count ∧ r.count ≤ 255
  clearCount : r.pending = false → r.count = 0 ∧ r.detail = 0
  noDetail : code ∈ [2, 6, 9] → r.detail = 0

theorem SourceRecord.clear_fits (code : Nat) : SourceRecord.clear.Fits code := by
  constructor <;> simp [SourceRecord.clear]

theorem SourceRecord.pending_fits {count detail code : Nat} (low : 1 ≤ count) (high : count ≤ 255)
    (plain : code ∈ [2, 6, 9] → detail = 0) : SourceRecord.Fits ⟨true, count, detail⟩ code :=
  ⟨fun _ => ⟨low, high⟩, nofun, plain⟩

section Agreement

variable {a b : AttentionUnit}

theorem AttentionUnit.sound_iff : a.Sound ↔ a.Settled ∧ ∀ c, (a.source c).Fits c := by
  have line : a.Settled ↔ (a.attn = true ↔
      ∃ c, 1 ≤ c ∧ c ≤ 12 ∧ (a.source c).pending = true ∧ a.mask.getLsbD (c - 1) = true) := by
    refine iff_congr Iff.rfl (exists_congr fun c => and_congr_right fun low => ?_)
    rw [AttentionUnit.enabled_of_low low]
  rw [line]
  exact ⟨fun sound => ⟨sound.line, fun c => ⟨sound.pendingCount c, sound.clearCount c, sound.noDetail c⟩⟩,
    fun ⟨settled, fits⟩ => ⟨settled, fun c => (fits c).pendingCount, fun c => (fits c).clearCount,
      fun c => (fits c).noDetail⟩⟩

theorem AttentionUnit.Sound.fits (sound : a.Sound) (c : Nat) : (a.source c).Fits c :=
  (AttentionUnit.sound_iff.mp sound).2 c

/-- A source written with a record that fits, and ATTN settled, keep the agreement. -/
theorem AttentionUnit.Sound.put (sound : a.Sound) {c : Nat} (low : 1 ≤ c) (high : c ≤ 12) {r : SourceRecord}
    (fits : r.Fits c) : (a.put c r).Sound := by
  refine AttentionUnit.sound_iff.mpr ⟨a.put_settled c r, fun d => ?_⟩
  by_cases same : d = c
  · subst same
    rwa [AttentionUnit.source_put_same _ _ _ low high]
  · rw [AttentionUnit.source_put_other _ _ _ _ same]
    exact sound.fits d

theorem AttentionUnit.Sound.withMask (sound : a.Sound) (marks : Nat) : (a.withMask marks).Sound :=
  AttentionUnit.sound_iff.mpr ⟨a.withMask_settled marks, sound.fits⟩

/-! ### Raisings (R173) and acknowledgements (R177, R178) -/

theorem SourceRecord.Fits.raised {r : SourceRecord} {code detail : Nat} (fits : r.Fits code)
    (plain : code ∉ [2, 6, 9] ∨ detail = 0) : (r.raised detail).Fits code := by
  cases pending : r.pending with
  | true =>
    rw [SourceRecord.raised_again pending]
    exact SourceRecord.pending_fits (by omega) (min_le_right _ _) fits.noDetail
  | false =>
    rw [SourceRecord.raised_first pending]
    exact SourceRecord.pending_fits le_rfl (by decide) fun named => plain.resolve_left (not_not.mpr named)

theorem SourceRecord.acknowledged_fits (r : SourceRecord) (code : Nat) : r.acknowledged.Fits code := by
  unfold SourceRecord.acknowledged
  split
  · exact SourceRecord.pending_fits le_rfl (by decide) fun _ => rfl
  · exact SourceRecord.clear_fits code

theorem AttentionUnit.Raised.sound (raised : a.Raised b) (sound : a.Sound) : b.Sound := by
  induction raised with
  | refl => exact sound
  | raise source detail plain _ ih =>
    exact ih.put source.code_bounds.1 source.code_bounds.2 ((ih.fits source.code).raised plain)

end Agreement

/-! ### Every command and every step -/

theorem State.serveAck_attention_sound (s : State) (code count : Nat) (sound : s.attention.Sound) :
    (s.serveAck code count).1.attention.Sound := by
  rw [State.serveAck_eq]
  dsimp only
  split_ifs with outside quiet differs
  · exact sound
  · exact sound
  · exact sound
  · exact sound.put (by omega) (by omega) (SourceRecord.acknowledged_fits _ code)

theorem State.serveSetMask_attention_sound (s : State) (marks : Nat) (sound : s.attention.Sound) :
    (s.serveSetMask marks).1.attention.Sound := by
  unfold State.serveSetMask
  split
  · exact sound
  · exact sound.withMask marks

theorem State.lineRequest_attention_sound (s : State) (serve : State → State × Reply) (sound : s.attention.Sound)
    (served : ∀ t : State, t.attention.Sound → (serve t).1.attention.Sound) : (s.lineRequest serve).attention.Sound :=
  State.lineRequest_keeps (fun t => t.attention.Sound) s serve sound (fun _ kept => kept) served (fun _ _ _ kept => kept)

theorem exec_attention_sound (c : Instr) (s t : State) (sound : s.attention.Sound) (done : exec c s = .next t) :
    t.attention.Sound := by
  cases c with
  | reset =>
    cases done
    exact AttentionUnit.reset_sound
  | ackAttention code count =>
    cases done
    exact s.lineRequest_attention_sound _ sound fun t kept => t.serveAck_attention_sound code count kept
  | setAttentionMask marks =>
    cases done
    exact s.lineRequest_attention_sound _ sound fun t kept => t.serveSetMask_attention_sound marks kept
  | _ => exact (exec_raises _ s t rfl done).sound sound

/-- Settles O49: a step ends a field reply, which leaves the Attention Unit alone, or runs a command, which raises sources at
most, or is one of the three that write the unit otherwise. -/
theorem attnFollowsPendingSources : Obligations.AttnFollowsPendingSources := by
  intro s t sound done
  cases front : s.pending with
  | nil =>
    rw [step_idle s front] at done
    cases done
    rw [State.replyEnded_frame]
    exact sound
  | cons c rest =>
    rw [step_waiting s c rest front] at done
    exact exec_attention_sound c (s.withPending rest) t sound done

end Sys2Proof.Machine
end

section
/-! PROOFS. The poll ring, the walk and the turn: each operation of the Field Link Controller keeps its agreement (R181 to
R188). -/

namespace Sys2Proof.Machine

/-! ### Rings of the same nodes -/

/-- The node that a ring entry is of. -/
def RingEntry.node (e : RingEntry) : Nat × NodeKind :=
  (e.address, e.kind)

/-- What one entry is changed to stays sound and of the same node. -/
structure RingEntry.Kept (e d : RingEntry) : Prop where
  node : d.node = e.node
  sound : e.Sound → d.Sound

theorem RingEntry.answered_kept (e : RingEntry) : e.Kept e.answered :=
  ⟨rfl, fun sound => ⟨sound.address, fun _ => ⟨Nat.zero_le 2, rfl⟩, nofun⟩⟩

theorem RingEntry.skipped_kept (e : RingEntry) (passed : e.turnDue = false) : e.Kept e.skipped := by
  obtain ⟨silent, low⟩ : ¬e.presence = .active ∧ e.passCounter < 15 := by simpa [RingEntry.turnDue] using passed
  refine ⟨rfl, fun sound => ⟨sound.address, fun active => absurd active silent, fun absent => ?_⟩⟩
  exact ⟨(sound.absent absent).1, low⟩

theorem RingEntry.missed_kept (e : RingEntry) : e.Kept e.missed := by
  unfold RingEntry.missed
  split_ifs with absent third
  · exact ⟨rfl, id⟩
  · exact ⟨rfl, fun sound => ⟨sound.address, nofun, fun _ => ⟨rfl, Nat.zero_le 15⟩⟩⟩
  · refine ⟨rfl, fun sound => ⟨sound.address, fun active => ?_, fun silent => absurd silent absent⟩⟩
    have few : ¬3 ≤ e.misses + 1 := by simpa [RingEntry.missesOut, show e.presence = .active from active] using third
    exact ⟨by dsimp only; omega, (sound.active active).2⟩

theorem RingEntry.givenTurn_kept (e : RingEntry) : e.Kept { e with passCounter := 0 } :=
  ⟨rfl, fun sound => ⟨sound.address, fun active => ⟨(sound.active active).1, rfl⟩,
    fun absent => ⟨(sound.absent absent).1, Nat.zero_le 15⟩⟩⟩

/-- A ring changed entry by entry: the same nodes in the same order, with every entry sound where all were. -/
def RingKept (ring changed : List RingEntry) : Prop :=
  List.Forall₂ RingEntry.Kept ring changed

theorem RingEntry.Kept.refl (e : RingEntry) : e.Kept e :=
  ⟨rfl, id⟩

theorem RingKept.refl (ring : List RingEntry) : RingKept ring ring :=
  List.forall₂_same.mpr fun e _ => RingEntry.Kept.refl e

theorem changeEntry_kept (change : RingEntry → RingEntry) (kept : ∀ e, RingEntry.Kept e (change e)) (ring : List RingEntry)
    (index : Nat) : RingKept ring (changeEntry ring index change) := by
  unfold changeEntry
  induction ring generalizing index with
  | nil => rw [List.modify_nil]; exact .nil
  | cons e rest ih =>
    cases index with
    | zero => exact .cons (kept e) (RingKept.refl rest)
    | succ index => exact .cons (RingEntry.Kept.refl e) (ih index)

theorem skipRun_kept (ring : List RingEntry) : RingKept ring (skipRun ring).1 := by
  induction ring with
  | nil => exact .nil
  | cons e rest ih =>
    unfold skipRun
    split
    · exact RingKept.refl _
    · next passed => exact .cons (e.skipped_kept (by simpa using passed)) ih

theorem skipFrom_kept (ring : List RingEntry) (index : Nat) : RingKept ring (skipFrom ring index).1 := by
  have run : RingKept (ring.take index ++ ring.drop index) (skipFrom ring index).1 :=
    List.rel_append (RingKept.refl (ring.take index)) (skipRun_kept (ring.drop index))
  rwa [List.take_append_drop] at run

theorem skipRun_found {ring : List RingEntry} {k : Nat} (found : (skipRun ring).2 = some k) : k < ring.length := by
  induction ring generalizing k with
  | nil => cases found
  | cons e rest ih =>
    unfold skipRun at found
    split at found
    · cases found
      exact Nat.succ_pos _
    · obtain ⟨j, later, rfl⟩ := Option.map_eq_some_iff.mp found
      exact Nat.succ_lt_succ (ih later)

theorem skipFrom_found {ring : List RingEntry} {index k : Nat} (found : (skipFrom ring index).2 = some k) :
    k < ring.length := by
  obtain ⟨j, later, rfl⟩ := Option.map_eq_some_iff.mp found
  have low := skipRun_found later
  rw [List.length_drop] at low
  omega

section Kept

variable {ring changed : List RingEntry} (kept : RingKept ring changed)
include kept

theorem RingKept.nodes : changed.map RingEntry.node = ring.map RingEntry.node := by
  induction kept with
  | nil => rfl
  | cons head _ ih => rw [List.map_cons, List.map_cons, head.node, ih]

theorem RingKept.length_eq : changed.length = ring.length :=
  (List.Forall₂.length_eq kept).symm

theorem RingKept.addresses : changed.map RingEntry.address = ring.map RingEntry.address := by
  have firsts := congrArg (List.map Prod.fst) kept.nodes
  rwa [List.map_map, List.map_map] at firsts

theorem RingKept.nil_iff : changed = [] ↔ ring = [] := by
  rw [← List.length_eq_zero_iff, kept.length_eq, List.length_eq_zero_iff]

theorem RingKept.entries (sound : ∀ e ∈ ring, e.Sound) : ∀ e ∈ changed, e.Sound := by
  induction kept with
  | nil => exact sound
  | cons head _ ih =>
    rw [List.forall_mem_cons] at sound ⊢
    exact ⟨head.sound sound.1, ih sound.2⟩

theorem RingKept.getElem? {k : Nat} {e : RingEntry} (entry : ring[k]? = some e) :
    ∃ d, changed[k]? = some d ∧ d.node = e.node := by
  have nodes := congrArg (·[k]?) kept.nodes
  simp only [List.getElem?_map, entry, Option.map_some] at nodes
  exact Option.map_eq_some_iff.mp nodes

end Kept

/-! ### The agreement, between turns and in a turn (R181, R183, R185) -/

section Agreement

variable {f : FieldLink}

/-- Entries changed one by one keep the agreement. -/
theorem FieldLink.Sound.withRing (sound : f.Sound) {ring : List RingEntry} (kept : RingKept f.ring ring) :
    FieldLink.Sound { f with ring := ring } where
  size := kept.length_eq ▸ sound.size
  entries := kept.entries sound.entries
  addresses := kept.addresses ▸ sound.addresses
  walkNone := sound.walkNone.trans kept.nil_iff.symm
  walkEntry := fun k walk => kept.length_eq ▸ sound.walkEntry k walk
  holder := fun t turn stands => by
    obtain ⟨k, e, walk, entry, address, kind⟩ := sound.holder t turn stands
    obtain ⟨d, entry', node⟩ := kept.getElem? entry
    obtain ⟨address', kind'⟩ := Prod.mk.inj node
    exact ⟨k, d, walk, entry', address'.trans address, kind'.trans kind⟩
  reply := sound.reply
  idle := fun runs => ⟨(sound.idle runs).1, fun empty => (sound.idle runs).2 (kept.nil_iff.mp empty)⟩

/-- Between turns the walk position may be any entry, in any pass, with the idle time running or not. -/
theorem FieldLink.Sound.walked (sound : f.Sound) (free : f.turn = none) {ring : List RingEntry}
    (kept : RingKept f.ring ring) {k : Nat} (low : k < f.ring.length) (gave idle : Bool) :
    FieldLink.Sound { f with ring := ring, walk := some k, passGave := gave, idle := idle } :=
  have moved := sound.withRing kept
  have low : k < ring.length := kept.length_eq ▸ low
  have holds : ring ≠ [] := List.ne_nil_of_length_pos (Nat.zero_lt_of_lt low)
  { moved with
    walkNone := iff_of_false nofun holds
    walkEntry := fun _ walk => Option.some.inj walk ▸ low
    holder := fun t turn => by simp [free] at turn
    idle := fun _ => ⟨free, holds⟩ }

/-- A turn taken away leaves no reply. -/
theorem FieldLink.Sound.released (sound : f.Sound) : FieldLink.Sound { f with turn := none, reply := none } :=
  { sound with
    holder := nofun
    reply := by simp
    idle := fun runs => ⟨rfl, (sound.idle runs).2⟩ }

/-- A turn in progress comes to its reply. -/
theorem FieldLink.Sound.replying (sound : f.Sound) {t : Turn} (turn : f.turn = some t) (r : Reply) :
    FieldLink.Sound { f with reply := some r, turn := f.turn.map fun t => { t with phase := TurnPhase.reply } } :=
  { sound with
    holder := fun u held stands => by
      obtain ⟨t', turn', rfl⟩ := Option.map_eq_some_iff.mp held
      exact sound.holder t' turn' stands
    reply := by simp [turn]
    idle := fun runs => by cases turn.symm.trans (sound.idle runs).1 }

theorem FieldLink.turnEnded_turn (f : FieldLink) : f.turnEnded.turn = none := by
  unfold FieldLink.turnEnded
  split
  · rfl
  · assumption

theorem FieldLink.Sound.turnEnded (sound : f.Sound) : f.turnEnded.Sound := by
  unfold FieldLink.turnEnded
  split
  · next t turn =>
    have free := sound.released
    dsimp only
    split
    · unfold FieldLink.walkOn
      split
      · next index walk =>
        have low := sound.walkEntry index walk
        split
        · next more => exact free.walked rfl (RingKept.refl _) more _ _
        · exact free.walked rfl (RingKept.refl _) (Nat.zero_lt_of_lt low) _ _
      · exact free
    · exact free
  · exact sound

theorem FieldLink.Sound.seek (sound : f.Sound) (free : f.turn = none) : f.seek.Sound := by
  unfold FieldLink.seek
  split
  · exact sound
  · next index walk =>
    have here := skipFrom_kept f.ring index
    have first : 0 < f.ring.length := Nat.zero_lt_of_lt (sound.walkEntry index walk)
    dsimp only
    split
    · next k found => exact sound.walked free here (skipFrom_found found) _ _
    · split
      · have moved := sound.withRing here
        have again := skipFrom_kept (skipFrom f.ring index).1 0
        have first' : 0 < (skipFrom f.ring index).1.length := here.length_eq ▸ first
        split
        · next k found => exact moved.walked free again (skipFrom_found found) _ _
        · exact moved.walked free again first' _ _
      · exact sound.walked free here first _ _

theorem FieldLink.seek_turn (f : FieldLink) : f.seek.turn = f.turn := by
  unfold FieldLink.seek FieldLink.rest
  dsimp only
  repeat' split
  all_goals rfl

/-- A turn given while no idle time runs is held by the entry at the walk position. -/
theorem FieldLink.Sound.give (sound : f.Sound) (busy : f.idle = false) (speed : Nat) : (f.give speed).Sound := by
  unfold FieldLink.give
  split
  · next index e found =>
    obtain ⟨k, walk, found⟩ := Option.bind_eq_some_iff.mp found
    obtain ⟨d, entry, same⟩ := Option.map_eq_some_iff.mp found
    cases same
    have kept := changeEntry_kept (fun e => { e with passCounter := 0 }) RingEntry.givenTurn_kept f.ring index
    obtain ⟨d, entry', node⟩ := kept.getElem? entry
    obtain ⟨address, kind⟩ := Prod.mk.inj node
    exact { sound.withRing kept with
      holder := fun t turn _ => by
        cases turn
        exact ⟨index, d, walk, entry', address, kind⟩
      reply := by simp
      idle := fun runs => by simp [busy] at runs }
  · exact sound

theorem FieldLink.Sound.nextTurn (sound : f.Sound) (speed : Nat) : (f.nextTurn speed).Sound := by
  have sought := sound.turnEnded.seek f.turnEnded_turn
  unfold FieldLink.nextTurn
  dsimp only
  split
  · exact sought
  · next busy => exact sought.give (by simpa using busy) speed

theorem FieldLink.Sound.idleEnded (sound : f.Sound) (runs : f.idle = true) :
    (FieldLink.seek { f with idle := false, passGave := false }).Sound :=
  FieldLink.Sound.seek { sound with idle := nofun } (sound.idle runs).1

theorem FieldLink.Sound.changeHolder (sound : f.Sound) (change : RingEntry → RingEntry) (kept : ∀ e, RingEntry.Kept e (change e)) :
    (f.changeHolder change).Sound := by
  unfold FieldLink.changeHolder
  split
  · split
    · exact sound.withRing (changeEntry_kept change kept f.ring _)
    · exact sound
  · exact sound

/-! ### ADD NODE and DROP NODE (R182, R183) -/

theorem RingEntry.joining_sound {address : Nat} (kind : NodeKind) (known : isNode address = true) :
    RingEntry.Sound ⟨address, kind, .active, 0, 0⟩ :=
  ⟨(isNode_iff address).mp known, fun _ => ⟨Nat.zero_le 2, rfl⟩, nofun⟩

theorem FieldLink.Sound.add (sound : f.Sound) {address : Nat} (kind : NodeKind) (known : isNode address = true)
    (room : f.ring.length < topNode) (fresh : ∀ e ∈ f.ring, e.address ≠ address) : (f.add address kind).Sound where
  size := by
    rw [FieldLink.add, List.length_append]
    exact room
  entries := by
    simp only [FieldLink.add, List.forall_mem_append, List.forall_mem_singleton]
    exact ⟨sound.entries, RingEntry.joining_sound kind known⟩
  addresses := by
    rw [FieldLink.add, List.map_append, List.map_singleton, List.nodup_append]
    refine ⟨sound.addresses, List.nodup_singleton _, ?_⟩
    simpa using fresh
  walkNone := by
    by_cases empty : f.ring = [] <;> simp [FieldLink.add, empty, sound.walkNone]
  walkEntry := fun k walk => by
    rw [FieldLink.add, List.length_append]
    by_cases empty : f.ring = []
    · simp only [FieldLink.add, empty, if_true] at walk
      simp [← Option.some.inj walk]
    · simp only [FieldLink.add, empty, if_false] at walk
      exact Nat.lt_add_right 1 (sound.walkEntry k walk)
  holder := fun t turn stands => by
    obtain ⟨k, e, walk, entry, same⟩ := sound.holder t turn stands
    have low : k < f.ring.length := sound.walkEntry k walk
    have filled : f.ring ≠ [] := List.ne_nil_of_length_pos (Nat.zero_lt_of_lt low)
    refine ⟨k, e, by simpa [FieldLink.add, filled] using walk, ?_, same⟩
    rw [FieldLink.add, List.getElem?_append_left low, entry]
  reply := sound.reply
  idle := fun runs => ⟨(sound.idle runs).1, by simp [FieldLink.add]⟩

/-- The walk position after a drop that leaves the ring an entry (R183). -/
theorem FieldLink.drop_walk {index w : Nat} (walk : f.walk = some w) (left : f.ring.eraseIdx index ≠ []) :
    (f.drop index).walk = some (
      if w < index then w
      else if w = index then (if (f.ring.eraseIdx index).length ≤ index then 0 else w) else w - 1) := by
  have kept : (f.drop index).walk =
      if (f.walk == some index && decide ((f.ring.eraseIdx index).length ≤ index)) = true then some 0
      else f.walk.map fun w => if index < w then w - 1 else w := if_neg left
  rw [kept, walk]
  rcases lt_trichotomy w index with before | rfl | after
  · simp [before, before.ne, before.not_gt]
  · by_cases last : (f.ring.eraseIdx w).length ≤ w <;> simp [last]
  · simp [after, after.ne', after.not_gt]

theorem FieldLink.drop_walk_empty {index : Nat} (empty : f.ring.eraseIdx index = []) : (f.drop index).walk = none :=
  if_pos empty

/-- A turn that an entry holds loses it where that entry is dropped (R183). -/
theorem FieldLink.drop_turn (f : FieldLink) (index : Nat) :
    (f.drop index).turn =
      if f.walk = some index then f.turn.map fun t => { t with entryStands := false } else f.turn := by
  simp [FieldLink.drop]

theorem FieldLink.Sound.drop (sound : f.Sound) {index : Nat} (known : index < f.ring.length) : (f.drop index).Sound := by
  have size := List.length_eraseIdx_of_lt known
  have position : f.walk ≠ none := fun nowhere => by simp [sound.walkNone.mp nowhere] at known
  obtain ⟨w, walk⟩ := Option.ne_none_iff_exists'.mp position
  have low := sound.walkEntry w walk
  constructor
  case size => exact (List.length_eraseIdx_le f.ring index).trans sound.size
  case entries => exact fun e member => sound.entries e (List.mem_of_mem_eraseIdx member)
  case addresses => exact sound.addresses.sublist ((List.eraseIdx_sublist f.ring index).map _)
  case walkNone =>
    by_cases empty : f.ring.eraseIdx index = []
    · exact iff_of_true (FieldLink.drop_walk_empty empty) empty
    · exact iff_of_false (by simp [FieldLink.drop_walk walk empty]) empty
  case walkEntry =>
    intro k position
    change k < (f.ring.eraseIdx index).length
    by_cases empty : f.ring.eraseIdx index = []
    · cases (FieldLink.drop_walk_empty empty).symm.trans position
    · have filled := List.length_pos_of_ne_nil empty
      cases (FieldLink.drop_walk walk empty).symm.trans position
      split_ifs <;> omega
  case holder =>
    intro t turn stands
    rw [FieldLink.drop_turn] at turn
    split_ifs at turn with atWalk
    · obtain ⟨u, -, rfl⟩ := Option.map_eq_some_iff.mp turn
      cases stands
    · obtain ⟨k, e, walk', entry, same⟩ := sound.holder t turn stands
      cases walk.symm.trans walk'
      have other : w ≠ index := fun same => atWalk (same ▸ walk)
      have empty : f.ring.eraseIdx index ≠ [] := List.ne_nil_of_length_pos (by omega)
      refine ⟨_, e, FieldLink.drop_walk walk empty, ?_, same⟩
      change (f.ring.eraseIdx index)[_]? = some e
      rw [List.getElem?_eraseIdx]
      rcases other.lt_or_gt with before | after
      · rw [if_pos before, if_pos before, entry]
      · rw [if_neg after.not_gt, if_neg other, if_neg (by omega), Nat.sub_add_cancel (by omega), entry]
  case reply =>
    rw [FieldLink.drop_turn]
    refine sound.reply.trans ?_
    split_ifs
    · cases f.turn <;> simp
    · exact Iff.rfl
  case idle =>
    intro runs
    obtain ⟨runs, filled⟩ : f.idle = true ∧ f.ring.eraseIdx index ≠ [] := by simpa [FieldLink.drop] using runs
    refine ⟨?_, filled⟩
    simp [FieldLink.drop_turn, (sound.idle runs).1]

end Agreement

end Sys2Proof.Machine
end

section
/-! PROOFS. What the commands of the other blocks leave of the two links, and every step keeps the agreement of the Field
Link Controller and of the Line Master Port (R181 to R188, R194, R196). -/

namespace Sys2Proof.Machine

/-! ### Operations that leave both links -/

/-- The two blocks of the links. -/
def State.linkParts (s : State) : FieldLink × LinePort :=
  (s.field, s.port)

theorem State.field_of_linkParts {s t : State} (same : t.linkParts = s.linkParts) : t.field = s.field :=
  (Prod.mk.inj same).1

theorem State.port_of_linkParts {s t : State} (same : t.linkParts = s.linkParts) : t.port = s.port :=
  (Prod.mk.inj same).2

theorem State.SameMeterAndLinks.linkParts {s t : State} (same : s.SameMeterAndLinks t) : t.linkParts = s.linkParts :=
  Prod.ext same.field same.port

theorem State.SameLinks.linkParts {s t : State} (same : s.SameLinks t) : t.linkParts = s.linkParts :=
  same.meterAndLinks.linkParts

@[simp] theorem State.eventEvaluation_linkParts (s : State) : s.eventEvaluation.linkParts = s.linkParts :=
  (State.evaluate_links s false).linkParts

@[simp] theorem State.grantEvaluation_linkParts (s : State) : s.grantEvaluation.linkParts = s.linkParts :=
  (State.grantEvaluation_links s).linkParts

@[simp] theorem State.compareHead_linkParts (s : State) : s.compareHead.linkParts = s.linkParts := by
  rw [State.compareHead_frame]
  rfl

@[simp] theorem State.endSwitch_linkParts (s : State) (p : Nat) (result : SwitchResult) :
    (s.endSwitch p result).linkParts = s.linkParts := by
  rw [State.endSwitch_frame]
  rfl

@[simp] theorem State.expireSwitch_linkParts (s : State) (p : Nat) (result : SwitchResult) :
    (s.expireSwitch p result).linkParts = s.linkParts :=
  State.endSwitch_linkParts s p result

@[simp] theorem State.startSwitch_linkParts (s : State) (p : Nat) (d : Direction) :
    (s.startSwitch p d).linkParts = s.linkParts := by
  rw [State.startSwitch_eq]
  split
  · exact State.eventEvaluation_linkParts _
  · rfl

@[simp] theorem State.completeSwitch_linkParts (s : State) (p : Nat) : (s.completeSwitch p).linkParts = s.linkParts := by
  have applied : (s.applySwitch p).linkParts = s.linkParts := by
    unfold State.applySwitch
    split
    · split <;> rfl
    · rfl
  exact (State.endSwitch_linkParts _ p .completed).trans applied

@[simp] theorem State.endQuench_linkParts (s : State) (p : Nat) : (s.endQuench p).linkParts = s.linkParts := by
  unfold State.endQuench
  rw [State.freeSlotOf_frame]
  rfl

@[simp] theorem State.settleExpired_linkParts (s : State) (p : Nat) : (s.settleExpired p).linkParts = s.linkParts := rfl

@[simp] theorem State.permitExpired_linkParts (s : State) (k p : Nat) : (s.permitExpired k p).linkParts = s.linkParts :=
  rfl

@[simp] theorem State.escalate_linkParts (s : State) (p : Nat) : (s.escalate p).linkParts = s.linkParts := by
  unfold State.escalate
  dsimp only
  split
  · exact State.grantEvaluation_linkParts _
  · rfl

@[simp] theorem State.tripUnit_linkParts (s : State) (u : Nat) (cause : TripCause) :
    (s.tripUnit u cause).linkParts = s.linkParts :=
  State.eventEvaluation_linkParts _

@[simp] theorem State.loseUnit_linkParts (s : State) (u : Nat) : (s.loseUnit u).linkParts = s.linkParts :=
  State.eventEvaluation_linkParts _

@[simp] theorem State.silenceUnit_linkParts (s : State) (u : Nat) : (s.silenceUnit u).linkParts = s.linkParts := by
  rw [State.silenceUnit_eq]
  split
  · exact State.eventEvaluation_linkParts _
  · rfl

@[simp] theorem State.tick_linkParts (s : State) (shed : Bool) : (s.tick shed).linkParts = s.linkParts := by
  rw [State.tick_frame]
  rfl

theorem State.takeItems_linkParts (node : Nat) (items : List ReportItem) (s : State) :
    (State.takeItems node items s).1.linkParts = s.linkParts := by
  induction items generalizing s with
  | nil => rfl
  | cons i rest ih =>
    refine (ih (s.takeItem node i).1).trans ?_
    unfold State.takeItem
    dsimp only
    split
    · exact (State.acceptReport_meterAndLinks s _ _).linkParts
    · rfl

/-! ### The commands by what they do to the links -/

/-- The events that reach neither link: the cycle, the ticks and the examinations after an advance. -/
def offLinks : Instr → Bool
  | .dispatchCycle _ | .meteringTick _ | .dayRollover _ | .intervalClose _ | .curtailmentExpiry _ | .potSilence _
  | .startHoldExpiry _ | .escalation _ | .settleExpiry _ | .permitExpiry _ | .rampFailure | .windowExpiry
  | .flowGraceExpiry _ | .unitSilence _ | .unitLoss _ | .lmFrameGap => true
  | _ => false

theorem exec_offLinks (c : Instr) (s t : State) (off : offLinks c = true) (done : exec c s = .next t) :
    t.linkParts = s.linkParts := by
  cases c <;> cases off <;> cases done
  case dispatchCycle arbiterFirst =>
    rw [State.compareHead_linkParts, (State.cycleWork_links _ arbiterFirst).linkParts]
    rfl
  case meteringTick => exact s.tick_linkParts _
  case dayRollover | intervalClose | curtailmentExpiry => split <;> simp
  case potSilence => split <;> rfl
  case startHoldExpiry =>
    dsimp only
    split <;> rfl
  case escalation | settleExpiry | flowGraceExpiry | unitSilence | unitLoss => split <;> simp
  case permitExpiry | rampFailure | windowExpiry =>
    split
    · split <;> simp
    · rfl
  case lmFrameGap => rfl

/-- A field request is taken in the window of a turn, by a serving that leaves both links (R187 to R190). -/
theorem exec_fieldRequest (c : Instr) (s t : State) (field : (fieldRequest c).isSome = true) (done : exec c s = .next t) :
    ∃ kinds serve, t = s.fieldRequest kinds serve ∧
      ∀ node (u : State), (serve node u).1.linkParts = u.linkParts := by
  cases c <;> cases field <;> cases done
  case potReport items => exact ⟨_, _, rfl, fun node u => State.takeItems_linkParts node items u⟩
  case pass => exact ⟨_, _, rfl, fun _ _ => rfl⟩
  case switchRequest | switchDone | switchCancel | quenchEnd =>
    refine ⟨_, _, rfl, fun _ u => ?_⟩
    simp only [State.serveSwitchRequest, State.serveSwitchDone, State.serveSwitchCancel, State.serveQuenchEnd]
    split <;> simp
  case unitReport =>
    refine ⟨_, _, rfl, fun _ u => ?_⟩
    unfold State.serveUnitReport
    dsimp only
    split
    · exact State.acceptUnitReport_links.linkParts
    · rfl

/-! ### Requests of the line master -/

/-- What a line master request comes to: it is discarded, or its reply is begun, with a Field Link Controller that is sound
where it was before. -/
inductive State.Answers (s : State) : State → Prop
  | discarded : Answers s s
  | sent {u : State} (first : Reply) (due : List Reply) (kept : s.field.Sound → u.field.Sound) :
    Answers s (u.sendFrames first due)

theorem State.loadFrame_answers (s : State) (serve : State → State × Reply)
    (served : ∀ u : State, u.field.Sound → (serve u).1.field.Sound) : s.Answers (s.loadFrame serve) := by
  unfold State.loadFrame
  split
  · exact .sent _ _ (served s)
  · exact .discarded

theorem State.lineRequest_answers (s : State) (serve : State → State × Reply)
    (served : ∀ u : State, u.field.Sound → (serve u).1.field.Sound) : s.Answers (s.lineRequest serve) :=
  s.loadFrame_answers _ fun u sound => served u.abandonLoad sound

/-- A request whose serving leaves both links is answered on the Field Link Controller it found. -/
theorem State.lineRequest_answers_off (s : State) (serve : State → State × Reply)
    (served : ∀ u : State, (serve u).1.linkParts = u.linkParts) : s.Answers (s.lineRequest serve) :=
  s.lineRequest_answers serve fun u sound => State.field_of_linkParts (served u) ▸ sound

theorem State.takeRange_answers (s : State) (first count : Nat) : s.Answers (s.takeRange first count) := by
  unfold State.takeRange
  dsimp only
  split_ifs
  · exact .sent _ _ id
  · exact .sent _ _ id
  · exact .discarded

theorem State.serveLoadTariff_linkParts (s : State) (part : TariffPart) (final : Bool) :
    (s.serveLoadTariff part final).1.linkParts = s.linkParts := by
  have finished : ∀ h working rest, (s.finishLoad h working rest).1.linkParts = s.linkParts := by
    intro h working rest
    unfold State.finishLoad
    split <;> rfl
  unfold State.serveLoadTariff
  split
  · split
    · rfl
    · cases part
      case header h => cases final; exacts [rfl, finished h _ _]
      all_goals rfl
  · cases part
    case working => cases final; exacts [rfl, finished _ _ _]
    all_goals rfl
  · cases part
    case rest => cases final; exacts [rfl, finished _ _ _]
    all_goals rfl

theorem State.serveSetParam_linkParts (s : State) (i v : Nat) : (s.serveSetParam i v).1.linkParts = s.linkParts := by
  unfold State.serveSetParam
  dsimp only [State.answer]
  split_ifs
  exacts [State.eventEvaluation_linkParts _, rfl, rfl]

theorem State.serveSetClock_linkParts (s : State) (time day : Nat) : (s.serveSetClock time day).1.linkParts = s.linkParts := by
  unfold State.serveSetClock
  split
  · rfl
  · rw [State.closed_eq]
    rfl

/-- The checks of ADD NODE that an entry has passed where it is added (R182). -/
theorem State.addNodeStatus_done {s : State} {address kind : Nat} (passed : s.addNodeStatus address kind = .done) :
    isNode address = true ∧ s.field.ring.length < topNode ∧ ∀ e ∈ s.field.ring, e.address ≠ address := by
  unfold State.addNodeStatus at passed
  split_ifs at passed with named full present
  simp only [Bool.not_eq_true', not_or, Bool.not_eq_false] at named
  exact ⟨named.1, Nat.not_le.mp full, by simpa using present⟩

theorem State.serveAddNode_sound (s : State) (address kind : Nat) (sound : s.field.Sound) :
    (s.serveAddNode address kind).1.field.Sound := by
  unfold State.serveAddNode
  split
  · next k passed _ =>
    obtain ⟨known, room, fresh⟩ := State.addNodeStatus_done passed
    exact sound.add k known room fresh
  · exact sound

theorem State.serveDropNode_sound (s : State) (address : Nat) (sound : s.field.Sound) :
    (s.serveDropNode address).1.field.Sound := by
  unfold State.serveDropNode
  split
  · exact sound
  · split
    · exact sound
    · next index found => exact sound.drop (List.findIdx?_eq_some_iff_getElem.mp found).1

theorem exec_lineRequest (c : Instr) (s t : State) (line : (lineRequest c).isSome = true) (done : exec c s = .next t) :
    s.Answers t := by
  cases c <;> cases line <;> cases done
  case addNode address kind => exact s.lineRequest_answers _ fun u sound => u.serveAddNode_sound address kind sound
  case dropNode address => exact s.lineRequest_answers _ fun u sound => u.serveDropNode_sound address sound
  case readPotRange => exact s.takeRange_answers _ _
  case loadTariff part final =>
    exact s.loadFrame_answers _ fun u sound => State.field_of_linkParts (u.serveLoadTariff_linkParts part final) ▸ sound
  case setParam => exact s.lineRequest_answers_off _ fun u => u.serveSetParam_linkParts _ _
  case setClock => exact s.lineRequest_answers_off _ fun u => u.serveSetClock_linkParts _ _
  case readNodes | setTarget | readLine | readMeter | readPeriod | closePeriod | lockTariff | getAttention =>
    exact s.lineRequest_answers_off _ fun _ => rfl
  case admitPot | retirePot | assignOwner | readPot | readUnit | readParam | curtail | cancelCurtail | readTariff |
      ackAttention | setAttentionMask =>
    refine s.lineRequest_answers_off _ fun u => ?_
    simp only [State.serveAdmit, State.serveRetire, State.serveAssign, State.serveReadPot, State.serveReadUnit,
      State.serveReadParam, State.serveCurtail, State.serveCancelCurtail, State.serveReadTariff, State.serveAck,
      State.serveSetMask]
    repeat' split
    all_goals rfl
  case defineUnit | removeUnit | tripUnit | restoreUnit | run | hold | resume =>
    refine s.lineRequest_answers_off _ fun u => ?_
    simp only [State.serveDefineUnit, State.serveRemoveUnit, State.serveTripUnit, State.serveRestoreUnit, State.serveRun,
      State.serveHold, State.serveResume]
    split_ifs
    all_goals simp only [State.answer, State.eventEvaluation_linkParts, State.tripUnit_linkParts]
    all_goals rfl

/-! ### The commands of the links -/

/-- A state's turn whose response window runs is a turn in progress. -/
theorem FieldLink.awaited_eq_some_iff (f : FieldLink) (t : Turn) :
    f.awaited = some t ↔ f.turn = some t ∧ t.phase = .await := by
  unfold FieldLink.awaited
  split
  · next u turn =>
    rw [turn]
    split_ifs with awaits
    · exact ⟨fun same => ⟨same, Option.some.inj same ▸ awaits⟩, And.left⟩
    · exact iff_of_false nofun fun ⟨same, await⟩ => awaits (Option.some.inj same ▸ await)
  · next turn => simp [turn]

/-- What a change of the holder's entry leaves is everything but the ring. -/
theorem FieldLink.changeHolder_frame (f : FieldLink) (change : RingEntry → RingEntry) :
    f.changeHolder change = { f with ring := (f.changeHolder change).ring } := by
  unfold FieldLink.changeHolder
  repeat' split
  all_goals rfl

theorem State.nodeAnswered_turn (s : State) : s.nodeAnswered.field.turn = s.field.turn := by
  change (s.field.changeHolder RingEntry.answered).turn = _
  rw [FieldLink.changeHolder_frame]

theorem State.nodeAnswered_sound {s : State} (sound : s.field.Sound) : s.nodeAnswered.field.Sound :=
  sound.changeHolder _ RingEntry.answered_kept

/-- A reply begun on the Field Link Controller that the node's characters leave keeps the agreement. -/
theorem State.sendFieldReply_sound {s u : State} {turn : Turn} (sound : s.field.Sound) (window : s.field.awaited = some turn)
    (same : u.field = s.nodeAnswered.field) (r : Reply) : (u.sendFieldReply r).field.Sound := by
  have held : u.field.turn = some turn :=
    same ▸ s.nodeAnswered_turn.trans ((s.field.awaited_eq_some_iff turn).mp window).1
  exact (same ▸ State.nodeAnswered_sound sound : u.field.Sound).replying held r

theorem State.fieldRequest_sound {s : State} (kinds : List NodeKind) (serve : Nat → State → State × Reply)
    (sound : s.field.Sound) (served : ∀ node (u : State), (serve node u).1.linkParts = u.linkParts) :
    (s.fieldRequest kinds serve).field.Sound := by
  unfold State.fieldRequest
  split
  · next turn window =>
    split
    · exact State.sendFieldReply_sound sound window (State.field_of_linkParts (served _ _)) _
    · exact State.sendFieldReply_sound sound window rfl _
  · exact sound

theorem State.countMiss_field (s : State) : s.countMiss.field = (s.field.changeHolder RingEntry.missed).turnEnded := by
  unfold State.countMiss
  dsimp only
  repeat' split
  all_goals rfl

/-- The commands that are events of the links: the turns, the frames that are no request, and those of the port. -/
def linkEvent : Instr → Bool
  | .turn | .idleTime | .miss | .fieldFrameGap | .fieldFrameRefused _ | .lmBreak | .lmFrameRefused _ | .rangeFrameNext
  | .lmrxIdleReturn | .lmReplyEnd => true
  | _ => false

theorem exec_linkEvent_field (c : Instr) (s t : State) (event : linkEvent c = true) (sound : s.field.Sound)
    (done : exec c s = .next t) : t.field.Sound := by
  cases c <;> cases event <;> cases done
  case turn => split; exacts [sound, sound.nextTurn _]
  case idleTime =>
    split
    · next runs => exact sound.idleEnded runs
    · exact sound
  case miss =>
    split
    · rw [State.countMiss_field]
      exact (sound.changeHolder _ RingEntry.missed_kept).turnEnded
    · exact sound
  case fieldFrameGap => split; exacts [(State.nodeAnswered_sound sound).turnEnded, sound]
  case fieldFrameRefused =>
    split
    · next turn window =>
      dsimp only
      split
      · exact sound
      · exact State.sendFieldReply_sound sound window rfl _
    · exact sound
  case lmBreak | lmrxIdleReturn => exact sound
  case lmFrameRefused | rangeFrameNext | lmReplyEnd => split <;> exact sound

theorem exec_linkEvent_port (c : Instr) (s t : State) (event : linkEvent c = true) (sound : s.port.Sound)
    (done : exec c s = .next t) : t.port.Sound := by
  cases c <;> cases event <;> cases done
  case turn | idleTime | fieldFrameGap => split <;> exact sound
  case miss =>
    unfold State.countMiss
    dsimp only
    repeat' split
    all_goals exact sound
  case fieldFrameRefused =>
    dsimp only
    repeat' split
    all_goals exact sound
  case lmBreak => exact fun waits => absurd rfl waits
  case lmrxIdleReturn => exact sound
  case lmFrameRefused | rangeFrameNext =>
    split
    · exact fun _ => rfl
    · exact sound
  case lmReplyEnd =>
    split
    · next ended => exact fun waits => absurd ended.2 waits
    · exact sound

/-! ### Every command and every step -/

/-- A command is RESET, reaches neither link, is an event of one, or is a request. -/
theorem instr_link_cases (c : Instr) :
    c = .reset ∨ offLinks c = true ∨ linkEvent c = true ∨ (fieldRequest c).isSome = true ∨ (lineRequest c).isSome = true := by
  cases c <;> simp [offLinks, linkEvent, fieldRequest, lineRequest]

theorem exec_field_sound (c : Instr) (s t : State) (sound : s.field.Sound) (done : exec c s = .next t) : t.field.Sound := by
  rcases instr_link_cases c with rfl | off | event | field | line
  · cases done
    exact FieldLink.reset_sound
  · exact State.field_of_linkParts (exec_offLinks c s t off done) ▸ sound
  · exact exec_linkEvent_field c s t event sound done
  · obtain ⟨kinds, serve, rfl, served⟩ := exec_fieldRequest c s t field done
    exact State.fieldRequest_sound kinds serve sound served
  · cases exec_lineRequest c s t line done with
    | discarded => exact sound
    | sent first due kept => exact kept sound

theorem exec_port_sound (c : Instr) (s t : State) (sound : s.port.Sound) (done : exec c s = .next t) : t.port.Sound := by
  rcases instr_link_cases c with rfl | off | event | field | line
  · cases done
    exact fun waits => absurd rfl waits
  · exact State.port_of_linkParts (exec_offLinks c s t off done) ▸ sound
  · exact exec_linkEvent_port c s t event sound done
  · obtain ⟨kinds, serve, rfl, served⟩ := exec_fieldRequest c s t field done
    exact State.fieldRequest_keeps (fun u => u.port.Sound) s kinds serve sound (fun _ kept => kept)
      (fun node u kept => State.port_of_linkParts (served node u) ▸ kept) fun _ _ kept => kept
  · cases exec_lineRequest c s t line done with
    | discarded => exact sound
    | sent first due kept => exact fun _ => rfl

/-- Settles O54: a step ends a field reply, which is the end of a turn, or runs a command, which is RESET, reaches neither
link, is an event of one, or is a request. -/
theorem linksStaySound : Obligations.LinksStaySound := by
  refine ⟨fun s t sound done => ?_, fun s t sound done => ?_⟩
  · cases front : s.pending with
    | nil =>
      rw [step_idle s front] at done
      cases done
      unfold State.replyEnded
      split
      exacts [sound.turnEnded, sound]
    | cons c rest =>
      rw [step_waiting s c rest front] at done
      exact exec_field_sound c (s.withPending rest) t sound done
  · cases front : s.pending with
    | nil =>
      rw [step_idle s front] at done
      cases done
      rw [State.replyEnded_frame]
      exact sound
    | cons c rest =>
      rw [step_waiting s c rest front] at done
      exact exec_port_sound c (s.withPending rest) t sound done

end Sys2Proof.Machine
end

section
/-! PROOFS. The end of a turn, a response window that runs out, and the answers to a turn (R180, R183 to R190). -/

namespace Sys2Proof.Machine

open Sys2Proof.Claims

/-! ### The end of a turn (R183, R185) -/

@[simp] theorem turnOver_turn (f : FieldLink) : (turnOver f).turn = none := by
  unfold turnOver
  repeat' split
  all_goals rfl

@[simp] theorem turnOver_reply (f : FieldLink) : (turnOver f).reply = none := by
  unfold turnOver
  repeat' split
  all_goals rfl

@[simp] theorem turnOver_ring (f : FieldLink) : (turnOver f).ring = f.ring := by
  unfold turnOver
  repeat' split
  all_goals rfl

@[simp] theorem turnOver_idle (f : FieldLink) : (turnOver f).idle = f.idle := by
  unfold turnOver
  repeat' split
  all_goals rfl

section Turn

variable {f : FieldLink} {t : Turn} (turn : f.turn = some t)
include turn

/-- The turn of an entry that stands ends at the walk position, which moves on (R185). -/
theorem turnOver_standing (stands : t.entryStands = true) {k : Nat} (walk : f.walk = some k) :
    turnOver f = { f with
      turn := none, reply := none, walk := some (if k + 1 < f.ring.length then k + 1 else 0)
      passGave := f.passGave && decide (k + 1 < f.ring.length) } := by
  simp only [turnOver, turn, walk, stands, if_true, apply_ite some]

theorem turnOver_dropped (dropped : t.entryStands = false) : turnOver f = { f with turn := none, reply := none } := by
  unfold turnOver
  cases f.walk <;> simp [turn, dropped]

theorem FieldLink.turnEnded_eq_turnOver : f.turnEnded = turnOver f := by
  cases stands : t.entryStands with
  | false =>
    rw [turnOver_dropped turn stands]
    simp [FieldLink.turnEnded, turn, stands]
  | true =>
    cases walk : f.walk with
    | none => simp [FieldLink.turnEnded, FieldLink.walkOn, turnOver, turn, stands, walk]
    | some k =>
      rw [turnOver_standing turn stands walk]
      by_cases more : k + 1 < f.ring.length <;> simp [FieldLink.turnEnded, FieldLink.walkOn, turn, stands, walk, more]

/-! ### The entry that holds the turn -/

theorem FieldLink.changeHolder_standing (stands : t.entryStands = true) {k : Nat} {e : RingEntry} (walk : f.walk = some k)
    (entry : f.ring[k]? = some e) (change : RingEntry → RingEntry) :
    f.changeHolder change = { f with ring := f.ring.set k (change e) } := by
  simp [FieldLink.changeHolder, turn, walk, stands, changeEntry, List.modify_eq_set_getElem?, entry]

theorem FieldLink.changeHolder_dropped (dropped : t.entryStands = false) (change : RingEntry → RingEntry) :
    f.changeHolder change = f := by
  unfold FieldLink.changeHolder
  cases f.walk <;> simp [turn, dropped]

theorem FieldLink.holder_standing (stands : t.entryStands = true) {k : Nat} (walk : f.walk = some k) :
    f.holder = f.ring[k]? := by
  simp [FieldLink.holder, turn, walk, stands]

theorem FieldLink.holder_dropped (dropped : t.entryStands = false) : f.holder = none := by
  unfold FieldLink.holder
  cases f.walk <;> simp [turn, dropped]

end Turn

/-- Settles O1: the end of a field reply is the end of its turn. -/
theorem stepRunsFrontCommand : Obligations.StepRunsFrontCommand := by
  refine ⟨fun c rest s front => step_waiting s c rest front, fun s empty quiet => ?_, fun s empty sending inTurn => ?_⟩
  · rw [step_idle s empty, State.replyEnded_quiet s quiet]
  · obtain ⟨r, reply⟩ := Option.ne_none_iff_exists'.mp sending
    obtain ⟨t, turn⟩ := Option.ne_none_iff_exists'.mp inTurn
    refine ⟨?_, by simp [FieldLink.flde], by simp [FieldLink.turnAddress]⟩
    rw [step_idle s empty, State.replyEnded_sending s r reply, FieldLink.turnEnded_eq_turnOver turn]
    rfl

/-! ### A response window that runs out (R186) -/

theorem RingEntry.missesOut_iff (e : RingEntry) : e.missesOut = true ↔ e.presence = .active ∧ 2 ≤ e.misses := by
  simp [RingEntry.missesOut]

theorem RingEntry.missed_eq (e : RingEntry) :
    e.missed =
      if e.presence = .absent then e
      else if 2 ≤ e.misses then { e with presence := .absent, misses := 3, passCounter := 0 }
      else { e with misses := e.misses + 1 } := by
  unfold RingEntry.missed
  refine ite_congr rfl (fun _ => rfl) fun present => if_congr ?_ rfl rfl
  have active : e.presence = .active := by
    cases presence : e.presence
    · rfl
    · exact absurd presence present
  simp [RingEntry.missesOut_iff, active]

/-- A miss touches the Field Link Controller and the Attention Unit only. -/
theorem State.countMiss_frame (s : State) :
    s.countMiss = { s with field := s.countMiss.field, attention := s.countMiss.attention } := by
  unfold State.countMiss
  dsimp only
  repeat' split
  all_goals rfl

theorem State.countMiss_attention {s : State} {e : RingEntry} (holder : s.field.holder = some e) :
    s.countMiss.attention =
      if e.presence = .active ∧ 2 ≤ e.misses then (s.raise .nodeAbsent e.address).attention else s.attention := by
  unfold State.countMiss
  simp only [holder, ← RingEntry.missesOut_iff]
  split <;> rfl

theorem exec_miss_window {s : State} {turn : Turn} (window : s.field.awaited = some turn) :
    exec .miss s = .next s.countMiss :=
  congrArg Host.Outcome.next (if_pos (by rw [window]; rfl))

/-- Settles O52: the miss is counted in the entry at the walk position, and the turn ends. -/
theorem missedTurnIsCounted : Obligations.MissedTurnIsCounted := by
  refine ⟨fun s closed => ?_, fun s turn k e window stands walk entry => ?_, fun s turn window dropped => ?_⟩
  · exact congrArg Host.Outcome.next (if_neg (by rw [closed]; exact Bool.false_ne_true))
  · obtain ⟨held, -⟩ := (s.field.awaited_eq_some_iff turn).mp window
    have missed := FieldLink.changeHolder_standing held stands walk entry RingEntry.missed
    have field : s.countMiss.field = turnOver { s.field with ring := s.field.ring.set k e.missed } := by
      rw [State.countMiss_field, missed]
      exact FieldLink.turnEnded_eq_turnOver held
    have moved := field.trans (turnOver_standing (f := { s.field with ring := s.field.ring.set k e.missed }) held stands walk)
    rw [List.length_set] at moved
    have holder : s.field.holder = some e := (FieldLink.holder_standing held stands walk).trans entry
    refine ⟨s.countMiss, exec_miss_window window, s.countMiss_frame, e.missed_eq ▸ field, ?_, ?_, ?_, ?_,
      State.countMiss_attention holder⟩
    all_goals rw [moved]
  · obtain ⟨held, -⟩ := (s.field.awaited_eq_some_iff turn).mp window
    have field : s.countMiss.field = { s.field with turn := none, reply := none } := by
      rw [State.countMiss_field, FieldLink.changeHolder_dropped held dropped, FieldLink.turnEnded_eq_turnOver held,
        turnOver_dropped held dropped]
    have attention : s.countMiss.attention = s.attention := by
      simp only [State.countMiss, FieldLink.holder_dropped held dropped]
      rfl
    rw [exec_miss_window window, State.countMiss_frame, field, attention]

/-! ### The answers to a turn (R187 to R190) -/

theorem exec_pass_window {s : State} {turn : Turn} (window : s.field.awaited = some turn) :
    exec .pass s = .next (fieldAnswered s.nodeAnswered .done []) := by
  have either : [NodeKind.potNode, .unitNode].contains turn.kind = true := by cases turn.kind <;> rfl
  exact congrArg Host.Outcome.next (s.fieldRequest_taken _ _ turn window either)

theorem exec_fieldFrameRefused_window {s : State} {turn : Turn} (window : s.field.awaited = some turn)
    {frame : List FieldChar} {link : LinkStatus} {i : Option Instr} (judged : judgeField turn.kind frame = (link, i))
    (refused : link ≠ .ok) :
    exec (.fieldFrameRefused frame) s = .next (s.nodeAnswered.sendFieldReply ⟨link, .none, [], false⟩) := by
  refine congrArg Host.Outcome.next ?_
  simp only [window, judged, refused, if_false]
  rfl

theorem exec_fieldFrameGap_window {s : State} {turn : Turn} (window : s.field.awaited = some turn) :
    exec .fieldFrameGap s = .next { s with field := turnOver s.nodeAnswered.field } := by
  have held : s.nodeAnswered.field.turn = some turn :=
    s.nodeAnswered_turn.trans ((s.field.awaited_eq_some_iff turn).mp window).1
  rw [← FieldLink.turnEnded_eq_turnOver held]
  exact congrArg Host.Outcome.next (if_pos (by rw [window]; rfl))

/-- Settles O53, one command that can answer a turn at a time. -/
theorem anyCharacterAnswersTheTurn : Obligations.AnyCharacterAnswersTheTurn := by
  intro s turn window
  obtain ⟨held, -⟩ := (s.field.awaited_eq_some_iff turn).mp window
  refine ⟨rfl, fun k e stands walk entry => FieldLink.changeHolder_standing held stands walk entry _,
    exec_pass_window window, fun f link i judged refused => exec_fieldFrameRefused_window window judged refused,
    fun c kind report => ?_, fun c kind spelled => ?_,
    ⟨exec_fieldFrameGap_window window, turnOver_turn _, turnOver_reply _, turnOver_ring _⟩, fun r => ?_⟩
  · obtain ⟨u, m, t, f, b, rfl⟩ := report
    exact congrArg Host.Outcome.next (s.fieldRequest_unknown _ _ turn window (by rw [kind]; rfl))
  · obtain ⟨code, payload, spells, low, high⟩ := spelled
    cases c <;> cases spells
    case unitReport.refl | pass.refl => omega
    all_goals exact congrArg Host.Outcome.next (s.fieldRequest_unknown _ _ turn window (by rw [kind]; rfl))
  · have answering : (s.nodeAnswered.sendFieldReply r).field.turn = some { turn with phase := .reply } := by
      change s.nodeAnswered.field.turn.map _ = _
      rw [s.nodeAnswered_turn, held]
      rfl
    simp only [FieldLink.sent, answering]
    rfl

end Sys2Proof.Machine
end

section
/-! PROOFS. The walk of the poll ring, and the nodes that join and leave it (R182, R183, R185). -/

namespace Sys2Proof.Machine

open Sys2Proof.Claims

/-! ### Entries passed over and entries that are due (R185) -/

theorem RingEntry.turnDue_of_passedOver {e : RingEntry} (passed : passedOver e) : e.turnDue = false := by
  simp [RingEntry.turnDue, passed.1, passed.2]

theorem RingEntry.turnDue_of_due {e : RingEntry} (isDue : due e) : e.turnDue = true := by
  rcases isDue with active | full <;> simp [RingEntry.turnDue, *]

theorem skipRun_passed {skipped : List RingEntry} (passed : ∀ x ∈ skipped, passedOver x) (rest : List RingEntry) :
    skipRun (skipped ++ rest) =
      (skipped.map counted ++ (skipRun rest).1, (skipRun rest).2.map (· + skipped.length)) := by
  induction skipped with
  | nil => simp
  | cons x skipped ih =>
    rw [List.forall_mem_cons] at passed
    rw [List.cons_append, skipRun, RingEntry.turnDue_of_passedOver passed.1, ih passed.2]
    simp [RingEntry.skipped, counted, Function.comp_def, Nat.add_assoc]

theorem skipRun_due {e : RingEntry} (isDue : due e) (back : List RingEntry) : skipRun (e :: back) = (e :: back, some 0) := by
  rw [skipRun, RingEntry.turnDue_of_due isDue, if_pos rfl]

theorem skipFrom_due (front : List RingEntry) {skipped : List RingEntry} (passed : ∀ x ∈ skipped, passedOver x)
    {e : RingEntry} (isDue : due e) (back : List RingEntry) :
    skipFrom (front ++ skipped ++ e :: back) front.length =
      (front ++ skipped.map counted ++ e :: back, some (front ++ skipped.map counted).length) := by
  simp [skipFrom, skipRun_passed passed, skipRun_due isDue, Nat.add_comm]

theorem skipFrom_passed (front : List RingEntry) {skipped : List RingEntry} (passed : ∀ x ∈ skipped, passedOver x) :
    skipFrom (front ++ skipped) front.length = (front ++ skipped.map counted, none) := by
  have run := skipRun_passed passed []
  rw [List.append_nil] at run
  simp [skipFrom, run, skipRun]

/-- The same of a whole pass, from the first entry on. -/
theorem skipFrom_zero_due {again : List RingEntry} (passed : ∀ x ∈ again, passedOver x) {e : RingEntry} (isDue : due e)
    (back : List RingEntry) :
    skipFrom (again ++ e :: back) 0 = (again.map counted ++ e :: back, some (again.map counted).length) :=
  skipFrom_due [] passed isDue back

theorem skipFrom_zero_passed {ring : List RingEntry} (passed : ∀ x ∈ ring, passedOver x) :
    skipFrom ring 0 = (ring.map counted, none) :=
  skipFrom_passed [] passed

/-! ### Where the walk goes (R185) -/

section Seek

variable {f : FieldLink} {index : Nat} {ring ring' : List RingEntry} (walk : f.walk = some index)
include walk

theorem FieldLink.seek_found {k : Nat} (here : skipFrom f.ring index = (ring, some k)) :
    f.seek = { f with ring := ring, walk := some k } := by
  simp only [FieldLink.seek, walk, here]

theorem FieldLink.seek_rest (here : skipFrom f.ring index = (ring, none)) (gave : f.passGave = false) :
    f.seek = f.rest ring := by
  simp only [FieldLink.seek, walk, here, gave, Bool.false_eq_true, if_false]

theorem FieldLink.seek_again_found (here : skipFrom f.ring index = (ring, none)) (gave : f.passGave = true) {k : Nat}
    (again : skipFrom ring 0 = (ring', some k)) :
    f.seek = { f with ring := ring', walk := some k, passGave := false } := by
  simp only [FieldLink.seek, walk, here, gave, if_true, again]

theorem FieldLink.seek_again_rest (here : skipFrom f.ring index = (ring, none)) (gave : f.passGave = true)
    (again : skipFrom ring 0 = (ring', none)) : f.seek = f.rest ring' := by
  simp only [FieldLink.seek, walk, here, gave, if_true, again]

end Seek

theorem FieldLink.turnEnded_free {f : FieldLink} (free : f.turn = none) : f.turnEnded = f := by
  simp only [FieldLink.turnEnded, free]

theorem FieldLink.give_at {f : FieldLink} {front back : List RingEntry} {e : RingEntry}
    (walk : f.walk = some front.length) (ring : f.ring = front ++ e :: back) (speed : Nat) :
    f.give speed = { f with
      ring := front ++ { e with passCounter := 0 } :: back, turn := some ⟨e.address, e.kind, true, .await⟩
      passGave := true, speed := speed, reply := none } := by
  simp [FieldLink.give, walk, ring, changeEntry, List.modify_eq_set_getElem?]

/-! ### TURN and IDLE TIME (R185, R186) -/

theorem FieldLink.awaited_free {f : FieldLink} (free : f.turn = none) : f.awaited = none := by
  simp only [FieldLink.awaited, free]

theorem exec_turn_closed {s : State} (closed : s.field.awaited = none) (busy : s.field.idle = false) :
    exec .turn s = .next { s with field := s.field.nextTurn s.params.fieldSpeed } :=
  congrArg Host.Outcome.next (if_neg (by simp [closed, busy]))

theorem FieldLink.nextTurn_free {f g : FieldLink} (free : f.turn = none) (sought : f.seek = g) (speed : Nat) :
    f.nextTurn speed = if g.idle then g else g.give speed := by
  simp only [FieldLink.nextTurn, FieldLink.turnEnded_free free, sought]

/-- Between turns the walk gives the turn to the entry it has come to. -/
theorem exec_turn_gives {s : State} (free : s.field.turn = none) (busy : s.field.idle = false)
    {front back : List RingEntry} {e : RingEntry} {gave : Bool}
    (sought : s.field.seek =
      { s.field with ring := front ++ e :: back, walk := some front.length, passGave := gave }) :
    exec .turn s = .next { s with
      field := given s (front ++ { e with passCounter := 0 } :: back) front.length e } := by
  rw [exec_turn_closed (FieldLink.awaited_free free) busy, FieldLink.nextTurn_free free sought, if_neg (by simp [busy]),
    FieldLink.give_at rfl rfl]
  rfl

theorem exec_turn_rests {s : State} (free : s.field.turn = none) (busy : s.field.idle = false) {ring : List RingEntry}
    (sought : s.field.seek = rested s ring) : exec .turn s = .next { s with field := rested s ring } := by
  rw [exec_turn_closed (FieldLink.awaited_free free) busy, FieldLink.nextTurn_free free sought]
  rfl

/-- A turn that has come to its reply ends before the next one is given. -/
theorem exec_turn_replying {s : State} {turn : Turn} (held : s.field.turn = some turn) (replying : turn.phase = .reply)
    (busy : s.field.idle = false) : exec .turn s = exec .turn { s with field := turnOver s.field } := by
  have closed : s.field.awaited = none := by simp [FieldLink.awaited, held, replying]
  have free := turnOver_turn s.field
  rw [exec_turn_closed closed busy, exec_turn_closed (FieldLink.awaited_free free) ((turnOver_idle s.field).trans busy)]
  simp only [FieldLink.nextTurn, FieldLink.turnEnded_eq_turnOver held, FieldLink.turnEnded_free free]
  rfl

theorem exec_turn_emptyRing {s : State} (free : s.field.turn = none) (position : s.field.walk = none) :
    exec .turn s = .next s := by
  have stays : s.field.nextTurn s.params.fieldSpeed = s.field := by
    simp [FieldLink.nextTurn, FieldLink.turnEnded_free free, FieldLink.seek, FieldLink.give, position]
  refine congrArg Host.Outcome.next ?_
  rw [stays]
  exact ite_self s

theorem exec_idleTime_runs {s : State} (runs : s.field.idle = true) :
    exec .idleTime s = .next { s with field := FieldLink.seek { s.field with idle := false, passGave := false } } :=
  congrArg Host.Outcome.next (if_pos runs)

/-- Settles O51, by where the walk finds the next entry that is due. -/
theorem walkGivesTurnsInRingOrder : Obligations.WalkGivesTurnsInRingOrder := by
  refine ⟨fun s front skipped back e free busy walk ring passed isDue => ⟨?_, rfl⟩,
    fun s front skipped free busy gave walk ring passed => ?_,
    fun s front skipped again back e free busy gave walk ring passed split passed' isDue => ?_,
    fun s front skipped free busy gave walk ring passed passed' => ?_,
    fun s turn held replying busy => exec_turn_replying held replying busy,
    fun s free position => exec_turn_emptyRing free position, fun s taken => ?_, fun s busy => ?_,
    fun s runs walk passed => ?_, fun s front back e runs walk ring isDue passed => ?_⟩
  · have here := skipFrom_due front passed isDue back
    have given := exec_turn_gives free busy (FieldLink.seek_found walk (ring ▸ here))
    rwa [List.length_append, List.length_map] at given
  · exact exec_turn_rests free busy (FieldLink.seek_rest walk (ring ▸ skipFrom_passed front passed) gave)
  · have here := skipFrom_passed front passed
    have next := skipFrom_zero_due passed' isDue back
    have given := exec_turn_gives free busy (FieldLink.seek_again_found walk (ring ▸ here) gave (split ▸ next))
    rwa [List.length_map] at given
  · have here := skipFrom_passed front passed
    exact exec_turn_rests free busy (FieldLink.seek_again_rest walk (ring ▸ here) gave (skipFrom_zero_passed passed'))
  · refine congrArg Host.Outcome.next (if_pos ?_)
    rcases taken with window | runs
    · simp [Option.isSome_iff_ne_none.mpr window]
    · simp [runs]
  · exact congrArg Host.Outcome.next (if_neg (by simp [busy]))
  · rw [exec_idleTime_runs runs]
    exact congrArg (fun f => Host.Outcome.next { s with field := f })
      (FieldLink.seek_rest (f := { s.field with idle := false, passGave := false }) walk (skipFrom_zero_passed passed) rfl)
  · rw [exec_idleTime_runs runs]
    have found := FieldLink.seek_found (f := { s.field with idle := false, passGave := false }) walk
      (ring ▸ skipFrom_zero_due passed isDue back)
    rw [found, List.length_map]

/-! ### ADD NODE and DROP NODE (R182, R183) -/

theorem kindOf_isNone_iff (kind : Nat) : (kindOf kind).isNone = true ↔ kind ≠ 1 ∧ kind ≠ 2 := by
  unfold kindOf
  split <;> simp_all

theorem kindOf_eq_some {kind : Nat} (known : ¬(kind ≠ 1 ∧ kind ≠ 2)) :
    kindOf kind = some (if kind = 1 then .potNode else .unitNode) := by
  obtain rfl | rfl : kind = 1 ∨ kind = 2 := by omega
  all_goals rfl

/-- ADD NODE answered: the checks of R182 in their order, and the entry added. -/
theorem State.serveAddNode_eq (s : State) (a kind : Nat) :
    s.serveAddNode a kind =
      if (a < 1 ∨ 62 < a) ∨ (kind ≠ 1 ∧ kind ≠ 2) then s.answer .param
      else if 62 ≤ s.field.ring.length then s.answer .full
      else if ∃ e ∈ s.field.ring, e.address = a then s.answer .busy
      else State.answer { s with field := { s.field with
          ring := s.field.ring ++ [⟨a, if kind = 1 then .potNode else .unitNode, .active, 0, 0⟩]
          walk := if s.field.ring = [] then some 0 else s.field.walk } } .done := by
  have status : s.addNodeStatus a kind =
      if (a < 1 ∨ 62 < a) ∨ (kind ≠ 1 ∧ kind ≠ 2) then .param
      else if 62 ≤ s.field.ring.length then .full
      else if ∃ e ∈ s.field.ring, e.address = a then .busy
      else .done := by
    refine if_congr (or_congr ?_ (kindOf_isNone_iff kind)) rfl (if_congr Iff.rfl rfl (if_congr ?_ rfl rfl))
    · rw [← isNode_eq_false_iff, Bool.not_eq_true']
    · simp
  rw [State.serveAddNode, status]
  by_cases unnamed : (a < 1 ∨ 62 < a) ∨ (kind ≠ 1 ∧ kind ≠ 2)
  · simp only [if_pos unnamed]
  · rw [kindOf_eq_some (not_or.mp unnamed).2]
    simp only [if_neg unnamed]
    by_cases full : 62 ≤ s.field.ring.length
    · simp only [if_pos full]
    · simp only [if_neg full]
      by_cases present : ∃ e ∈ s.field.ring, e.address = a
      · simp only [if_pos present]
      · simp only [if_neg present]
        rfl

theorem exec_addNode (s : State) (a kind : Nat) (takes : s.port.takes = true) :
    exec (.addNode a kind) s = .next (State.replied (s.abandonLoad.serveAddNode a kind)) :=
  congrArg Host.Outcome.next (State.lineRequest_replied takes _)

theorem exec_dropNode (s : State) (a : Nat) (takes : s.port.takes = true) :
    exec (.dropNode a) s = .next (State.replied (s.abandonLoad.serveDropNode a)) :=
  congrArg Host.Outcome.next (State.lineRequest_replied takes _)

theorem FieldLink.indexOf_none {f : FieldLink} {a : Nat} (absent : ∀ e ∈ f.ring, e.address ≠ a) : f.indexOf a = none :=
  List.findIdx?_eq_none_iff.mpr fun e member => beq_false_of_ne (absent e member)

theorem FieldLink.indexOf_first {f : FieldLink} {front back : List RingEntry} {e : RingEntry}
    (ring : f.ring = front ++ e :: back) (before : ∀ x ∈ front, x.address ≠ e.address) :
    f.indexOf e.address = some front.length := by
  have absent : front.findIdx? (fun x => x.address == e.address) = none :=
    List.findIdx?_eq_none_iff.mpr fun x member => beq_false_of_ne (before x member)
  simp [FieldLink.indexOf, ring, List.findIdx?_append, absent, List.findIdx?_cons]

theorem State.serveDropNode_unnamed (s : State) {a : Nat} (outside : a < 1 ∨ 62 < a) :
    s.serveDropNode a = s.answer .param := by
  simp [State.serveDropNode, (isNode_eq_false_iff a).mpr outside]

theorem State.serveDropNode_absent (s : State) {a : Nat} (low : 1 ≤ a) (high : a ≤ 62) (absent : s.field.indexOf a = none) :
    s.serveDropNode a = s.answer .noRecord := by
  simp [State.serveDropNode, (isNode_iff a).mpr ⟨low, high⟩, absent]

/-- DROP NODE of an address in the ring removes its entry (R183). -/
theorem State.serveDropNode_found (s : State) {a index : Nat} (low : 1 ≤ a) (high : a ≤ 62)
    (found : s.field.indexOf a = some index) :
    s.serveDropNode a = (s.withField (s.field.drop index)).answer .done := by
  simp [State.serveDropNode, (isNode_iff a).mpr ⟨low, high⟩, found]

/-- Settles O50: ADD NODE by its checks, and DROP NODE by the place of the entry that leaves. -/
theorem nodesJoinAndLeaveRing : Obligations.NodesJoinAndLeaveRing := by
  refine ⟨fun s a kind takes => ?_, fun s a takes => ⟨fun outside => ?_, fun low high absent => ?_,
    fun front back e ring address low high before => ?_⟩⟩
  · rw [exec_addNode s a kind takes, State.serveAddNode_eq]
    simp only [apply_ite State.replied, State.replied_answer]
    rfl
  · rw [exec_dropNode s a takes, State.serveDropNode_unnamed _ outside]
    rfl
  · rw [exec_dropNode s a takes, State.serveDropNode_absent s.abandonLoad low high (FieldLink.indexOf_none absent)]
    rfl
  · subst address
    have found := State.serveDropNode_found s.abandonLoad low high (FieldLink.indexOf_first ring before)
    have left : s.field.ring.eraseIdx front.length = front ++ back := by
      simp [ring, List.eraseIdx_append_of_length_le]
    have last : (front ++ back).length ≤ front.length ↔ back = [] := by simp
    refine ⟨s.field.drop front.length, by rw [exec_dropNode s _ takes, found]; rfl, ?_, ?_, ?_, fun nowhere => ?_,
      fun empty => FieldLink.drop_walk_empty (left.trans empty), fun k filled walk => ?_, FieldLink.drop_turn _ _⟩
    · rw [← left]
      rfl
    · have wraps : decide ((front ++ back).length ≤ front.length) = back.isEmpty := by cases back <;> simp
      simp only [FieldLink.drop, left, wraps, beq_eq_decide]
    · simp [FieldLink.drop, left]
    · simp [FieldLink.drop, nowhere]
    · rw [FieldLink.drop_walk walk (left ▸ filled), left]
      simp only [last]

end Sys2Proof.Machine
end

section
/-! PROOFS. Numbers and their bytes, and the bytes of a frame: its structure, its code, its payload and its sum (R187, R192,
R198). -/

namespace Sys2Proof

open Sys2Proof.Machine Sys2Proof.Claims

/-! ### Numbers and their bytes (R198) -/

theorem foldl_unbe (bs : List Byte) (a : Nat) :
    bs.foldl (fun a b => a * 256 + b.toNat) a = a * 256 ^ bs.length + unbe bs := by
  unfold unbe
  induction bs generalizing a with
  | nil => simp
  | cons b bs ih =>
    rw [List.foldl_cons, List.foldl_cons, ih, ih (0 * 256 + b.toNat), List.length_cons]
    ring

theorem unbe_cons (b : Byte) (bs : List Byte) : unbe (b :: bs) = b.toNat * 256 ^ bs.length + unbe bs := by
  rw [unbe, List.foldl_cons, Nat.zero_mul, Nat.zero_add, foldl_unbe]

theorem unbe_singleton (b : Byte) : unbe [b] = b.toNat := by
  simp [unbe]

/-- A number sent as k bytes reads back modulo 256 to the k. -/
theorem unbe_be (k n : Nat) : unbe (be k n) = n % 256 ^ k := by
  induction k with
  | zero => simp [be, unbe, Nat.mod_one]
  | succ k ih =>
    have split : n % 256 ^ (k + 1) = n % 256 ^ k + 256 ^ k * (n / 256 ^ k % 256) := by rw [pow_succ, Nat.mod_mul]
    rw [be, unbe_cons, ih, be_length, BitVec.toNat_ofNat, split, Nat.add_comm, Nat.mul_comm]

theorem unbe_be_of_lt {k n : Nat} (fits : n < 256 ^ k) : unbe (be k n) = n :=
  (unbe_be k n).trans (Nat.mod_eq_of_lt fits)

theorem be_one (n : Nat) : be 1 n = [BitVec.ofNat 8 n] := by
  simp [be]

/-! ### The sum of a frame (R187, R192) -/

theorem byteSum_cons (b : Byte) (bs : List Byte) : byteSum (b :: bs) = b + byteSum bs := rfl

theorem byteSum_singleton (b : Byte) : byteSum [b] = b :=
  BitVec.add_zero b

theorem byteSum_append (bs cs : List Byte) : byteSum (bs ++ cs) = byteSum bs + byteSum cs := by
  induction bs with
  | nil => simp [byteSum]
  | cons b bs ih => rw [List.cons_append, byteSum_cons, byteSum_cons, ih, BitVec.add_assoc]

theorem byteSum_toNat (bs : List Byte) : (byteSum bs).toNat = (bs.map BitVec.toNat).sum % 256 := by
  induction bs with
  | nil => rfl
  | cons b bs ih => rw [byteSum_cons, BitVec.toNat_add, ih, List.map_cons, List.sum_cons, Nat.add_mod_mod]

theorem byteSum_eq_zero_iff (bs : List Byte) : byteSum bs = 0 ↔ (bs.map BitVec.toNat).sum % 256 = 0 := by
  rw [← byteSum_toNat, BitVec.toNat_eq]
  rfl

/-! ### The parts of a frame -/

/-- The bytes of a frame with a code, a payload, a sum and an end marker (R187, R192). -/
def frameBytes (code : Byte) (payload : List Byte) (sum last : Byte) : List Byte :=
  [0xC3, BitVec.ofNat 8 (payload.length + 1), code] ++ payload ++ [sum, last]

theorem shaped_iff (ends bytes : List Byte) (code : Byte) (payload : List Byte) (sum : Byte) :
    shaped ends bytes code payload sum ↔
      payload.length ≤ 250 ∧ ∃ last ∈ ends, bytes = frameBytes code payload sum last := Iff.rfl

section Parts

variable (code : Byte) (payload : List Byte) (sum last : Byte)

theorem codeOf_frameBytes : codeOf (frameBytes code payload sum last) = code.toNat :=
  unbe_singleton code

theorem payloadOf_frameBytes : payloadOf (frameBytes code payload sum last) = payload := by
  have behind : (frameBytes code payload sum last).drop 3 = payload ++ [sum, last] := rfl
  rw [payloadOf, behind]
  simp

theorem frameBytes_eq_concat :
    frameBytes code payload sum last =
      (0xC3 :: BitVec.ofNat 8 (payload.length + 1) :: code :: (payload ++ [sum])) ++ [last] := by
  simp [frameBytes]

theorem getLast?_frameBytes : (frameBytes code payload sum last).getLast? = some last := by
  rw [frameBytes_eq_concat, List.getLast?_concat]

theorem sumGood_frameBytes :
    sumGood (frameBytes code payload sum last) =
      (byteSum (BitVec.ofNat 8 (payload.length + 1) :: code :: (payload ++ [sum])) == 0) := by
  rw [sumGood, frameBytes_eq_concat, List.cons_append, List.drop_one, List.tail_cons, List.dropLast_concat]

variable {payload} (short : payload.length ≤ 250)
include short

theorem structureGood_frameBytes : structureGood (frameBytes code payload sum last) = true := by
  have counts : (BitVec.ofNat 8 (payload.length + 1)).toNat = payload.length + 1 := by
    rw [BitVec.toNat_ofNat]
    omega
  simp [frameBytes, structureGood, startMarker, counts]
  omega

theorem sumGood_frameBytes_iff :
    sumGood (frameBytes code payload sum last) = true ↔ frameTotal code payload sum % 256 = 0 := by
  rw [sumGood_frameBytes, beq_iff_eq, byteSum_eq_zero_iff]
  have counts : (BitVec.ofNat 8 (payload.length + 1)).toNat = payload.length + 1 := by
    rw [BitVec.toNat_ofNat]
    omega
  simp [counts, frameTotal, Nat.add_assoc]

end Parts

/-- A frame of good structure has a code, a payload, a sum and an end marker. -/
theorem structureGood_cases {bytes : List Byte} (good : structureGood bytes = true) :
    ∃ code payload sum last, payload.length ≤ 250 ∧ bytes = frameBytes code payload sum last := by
  unfold structureGood at good
  split at good
  · next a n rest =>
    simp only [Bool.and_eq_true, beq_iff_eq, decide_eq_true_eq] at good
    obtain ⟨⟨rfl, low, high⟩, size⟩ := good
    obtain ⟨code, tail, rfl⟩ := List.exists_cons_of_length_eq_add_one size
    rcases List.eq_nil_or_concat tail with rfl | ⟨front, last, rfl⟩
    · simp at size
    rcases List.eq_nil_or_concat front with rfl | ⟨payload, sum, rfl⟩
    · simp at size
      omega
    · simp only [List.concat_eq_append, List.length_cons, List.length_append, List.length_nil] at size
      have count : n = BitVec.ofNat 8 (payload.length + 1) := by
        apply BitVec.eq_of_toNat_eq
        rw [BitVec.toNat_ofNat]
        omega
      refine ⟨code, payload, sum, last, by omega, ?_⟩
      rw [count]
      simp [frameBytes, startMarker]
  · cases good

/-- The frame around a code and a payload, with a sum that makes it add up (R187, R192, R198). -/
theorem frameAround_eq (code : Nat) (payload : List Byte) (last : Byte) :
    ∃ sum, frameAround (be 1 code ++ payload) last = frameBytes (BitVec.ofNat 8 code) payload sum last ∧
      sumGood (frameAround (be 1 code ++ payload) last) = true := by
  have counted : be 1 (be 1 code ++ payload).length ++ (be 1 code ++ payload) =
      BitVec.ofNat 8 (payload.length + 1) :: BitVec.ofNat 8 code :: payload := by
    simp [be_one, Nat.add_comm]
  have bytes : frameAround (be 1 code ++ payload) last = frameBytes (BitVec.ofNat 8 code) payload
      (0 - byteSum (BitVec.ofNat 8 (payload.length + 1) :: BitVec.ofNat 8 code :: payload)) last := by
    simp only [frameAround, counted, frameBytes]
    rfl
  refine ⟨_, bytes, ?_⟩
  rw [bytes, sumGood_frameBytes, ← List.cons_append, ← List.cons_append, byteSum_append, beq_iff_eq, byteSum_singleton]
  exact (congrArg _ (BitVec.zero_sub _)).trans (BitVec.add_right_neg _)

end Sys2Proof
end

section
/-! PROOFS. The sizes of R199: which payloads spell a request of the field link, and of the line master port (R187, R189, R192,
R197). -/

namespace Sys2Proof

open Sys2Proof.Machine Sys2Proof.Claims

/-! ### Items of five bytes (R199) -/

theorem reportItems_length {p : List Byte} {items : List ReportItem} (read : reportItems p = some items) :
    p.length = 5 * items.length := by
  fun_induction reportItems p generalizing items with
  | case1 => cases read; rfl
  | case2 a b t c d rest ih =>
    obtain ⟨tail, later, rfl⟩ := Option.map_eq_some_iff.mp read
    simp only [List.length_cons, ih later]
    omega
  | case3 => cases read

theorem changePoints_length {p : List Byte} {points : List ChangePoint} (read : changePoints p = some points) :
    p.length = 5 * points.length := by
  fun_induction changePoints p generalizing points with
  | case1 => cases read; rfl
  | case2 a b c d e rest ih =>
    obtain ⟨tail, later, rfl⟩ := Option.map_eq_some_iff.mp read
    simp only [List.length_cons, ih later]
    omega
  | case3 => cases read

/-- A payload of some fives of bytes is a first five and some fives more. -/
theorem exists_five_of_length {p : List Byte} {n : Nat} (size : p.length = 5 * (n + 1)) :
    ∃ a b c d e rest, p = a :: b :: c :: d :: e :: rest ∧ rest.length = 5 * n := by
  match p, size with
  | a :: b :: c :: d :: e :: rest, size => exact ⟨a, b, c, d, e, rest, rfl, by simp at size; omega⟩

theorem reportItems_isSome {p : List Byte} {n : Nat} (size : p.length = 5 * n) : (reportItems p).isSome = true := by
  induction n generalizing p with
  | zero => rw [List.length_eq_zero_iff.mp size]; rfl
  | succ n ih =>
    obtain ⟨a, b, c, d, e, rest, rfl, short⟩ := exists_five_of_length size
    rw [reportItems, Option.isSome_map]
    exact ih short

theorem changePoints_isSome {p : List Byte} {n : Nat} (size : p.length = 5 * n) : (changePoints p).isSome = true := by
  induction n generalizing p with
  | zero => rw [List.length_eq_zero_iff.mp size]; rfl
  | succ n ih =>
    obtain ⟨a, b, c, d, e, rest, rfl, short⟩ := exists_five_of_length size
    rw [changePoints, Option.isSome_map]
    exact ih short

/-! ### The sections of a LOAD TARIFF frame (R197, R199) -/

theorem schedulePoints_isSome_iff (p : List Byte) :
    (schedulePoints p).isSome = true ↔ ∃ n, p[0]? = some n ∧ p.length = 1 + 5 * n.toNat := by
  cases p with
  | nil => simp [schedulePoints]
  | cons n rest =>
    simp only [schedulePoints, List.getElem?_cons_zero, Option.some.injEq, exists_eq_left', List.length_cons]
    constructor
    · intro read
      obtain ⟨points, read⟩ := Option.isSome_iff_exists.mp read
      obtain ⟨points', spelled, counted⟩ := Option.bind_eq_some_iff.mp read
      split_ifs at counted with count
      have size := changePoints_length spelled
      omega
    · intro size
      obtain ⟨points, spelled⟩ := Option.isSome_iff_exists.mp (changePoints_isSome (p := rest) (n := n.toNat) (by omega))
      have length := changePoints_length spelled
      rw [spelled, Option.bind_some, if_pos (by omega)]
      rfl

theorem headerPart_isSome_iff (p : List Byte) : (headerPart p).isSome = true ↔ p.length = 20 := by
  unfold headerPart
  split_ifs with size <;> simp [size]

/-- The size of a LOAD TARIFF payload is that of its section. -/
theorem tariffPart_isSome_iff (p : List Byte) :
    (tariffPart p).isSome = true ↔ (p.head? = some 1 ∧ p.length = 21) ∨
      ((p.head? = some 2 ∨ p.head? = some 3) ∧ ∃ n, p[1]? = some n ∧ p.length = 2 + 5 * n.toNat) := by
  cases p with
  | nil => simp [tariffPart]
  | cons sect rest =>
    have counted : ∀ n, rest.length + 1 = 2 + n ↔ rest.length = 1 + n := fun n => by omega
    unfold tariffPart
    dsimp only
    split_ifs with header working resting
    · simp [header, headerPart_isSome_iff]
    · simp [working, schedulePoints_isSome_iff, counted]
    · simp [resting, schedulePoints_isSome_iff, counted]
    · simp [show sect ≠ 1#8 from header, show sect ≠ 2#8 from working, show sect ≠ 3#8 from resting]

/-! ### Requests of one size (R199) -/

section Sizes

variable {P : List Byte → Prop}

theorem forall_length_ne_zero (more : ∀ a t, P (a :: t)) : ∀ p : List Byte, p.length ≠ 0 → P p
  | [], other => absurd rfl other
  | a :: t, _ => more a t

theorem forall_length_ne_succ {n : Nat} (empty : P []) (more : ∀ a, ∀ t : List Byte, t.length ≠ n → P (a :: t)) :
    ∀ p : List Byte, p.length ≠ n + 1 → P p
  | [], _ => empty
  | a :: t, other => more a t fun same => other (congrArg (· + 1) same)

end Sizes

/-- Where each listed code spells a request with every payload of its size and with no other, the list says which payloads
spell one. -/
theorem isSome_iff_of_sizes {parse : Nat → List Byte → Option Instr} {sizes : List (Nat × Nat)}
    (spelled : ∀ x ∈ sizes, ∀ payload : Fin x.2 → Byte, (parse x.1 (List.ofFn payload)).isSome = true)
    (other : ∀ x ∈ sizes, ∀ payload : List Byte, payload.length ≠ x.2 → parse x.1 payload = none)
    {code : Nat} (listed : code ∈ sizes.map Prod.fst) (payload : List Byte) :
    (parse code payload).isSome = true ↔ (code, payload.length) ∈ sizes := by
  obtain ⟨⟨code, size⟩, entry, rfl⟩ := List.mem_map.mp listed
  constructor
  · intro spells
    by_cases same : payload.length = size
    · exact same ▸ entry
    · rw [other _ entry payload same] at spells
      cases spells
  · intro fits
    have spells := spelled _ fits payload.get
    rwa [List.ofFn_get] at spells

/-! ### Field requests (R189, R199) -/

/-- The sizes of the field requests but POT REPORT. -/
def fixedFieldSizes : List (Nat × Nat) :=
  [(0x02, 4), (0x03, 3), (0x04, 3), (0x05, 3), (0x06, 6), (0x07, 0)]

theorem fieldSizes_eq :
    fieldSizes = (0x01, [5, 10, 15, 20, 25, 30, 35, 40]) :: fixedFieldSizes.map fun x => (x.1, [x.2]) := rfl

theorem parseField_ofFn : ∀ x ∈ fixedFieldSizes, ∀ payload : Fin x.2 → Byte,
    (parseField x.1 (List.ofFn payload)).isSome = true := by
  unfold fixedFieldSizes
  repeat refine List.forall_mem_cons.mpr ⟨fun _ => rfl, ?_⟩
  exact List.forall_mem_nil _

theorem parseField_otherSize : ∀ x ∈ fixedFieldSizes, ∀ payload : List Byte, payload.length ≠ x.2 →
    parseField x.1 payload = none := by
  unfold fixedFieldSizes
  repeat
    refine List.forall_mem_cons.mpr ⟨?_, ?_⟩
    · repeat refine forall_length_ne_succ rfl fun _ => ?_
      exact forall_length_ne_zero fun _ _ => rfl
  exact List.forall_mem_nil _

theorem parseField_report (p : List Byte) :
    parseField 0x01 p = (reportItems p).bind fun items =>
      if 1 ≤ items.length ∧ items.length ≤ 8 then some (.potReport items) else none := rfl

theorem parseField_report_isSome_iff (p : List Byte) :
    (parseField 0x01 p).isSome = true ↔ p.length ∈ [5, 10, 15, 20, 25, 30, 35, 40] := by
  have sizes : p.length ∈ [5, 10, 15, 20, 25, 30, 35, 40] ↔ ∃ n, p.length = 5 * n ∧ 1 ≤ n ∧ n ≤ 8 := by
    simp only [List.mem_cons, List.not_mem_nil, or_false]
    exact ⟨fun listed => ⟨p.length / 5, by omega⟩, fun ⟨n, size⟩ => by omega⟩
  rw [parseField_report, sizes]
  constructor
  · intro spelled
    obtain ⟨i, spelled⟩ := Option.isSome_iff_exists.mp spelled
    obtain ⟨items, read, counted⟩ := Option.bind_eq_some_iff.mp spelled
    split_ifs at counted with count
    exact ⟨items.length, reportItems_length read, count⟩
  · rintro ⟨n, size, low, high⟩
    obtain ⟨items, read⟩ := Option.isSome_iff_exists.mp (reportItems_isSome size)
    have length := reportItems_length read
    rw [read, Option.bind_some, if_pos (by omega)]
    rfl

theorem fieldCode_potNode_iff (code : Nat) : fieldCode .potNode code = true ↔ code ∈ [1, 2, 3, 4, 5, 7] :=
  List.contains_iff_mem

theorem fieldCode_unitNode_iff (code : Nat) : fieldCode .unitNode code = true ↔ code ∈ [6, 7] :=
  List.contains_iff_mem

theorem fieldCode_listed {kind : NodeKind} {code : Nat} (known : fieldCode kind code = true) :
    code = 0x01 ∨ code ∈ fixedFieldSizes.map Prod.fst := by
  cases kind with
  | potNode =>
    have split : ∀ c ∈ [1, 2, 3, 4, 5, 7], c = 0x01 ∨ c ∈ fixedFieldSizes.map Prod.fst := by decide
    exact split code ((fieldCode_potNode_iff code).mp known)
  | unitNode =>
    have split : ∀ c ∈ [6, 7], c ∈ fixedFieldSizes.map Prod.fst := by decide
    exact .inr (split code ((fieldCode_unitNode_iff code).mp known))

theorem fieldSizes_iff (code length : Nat) :
    (∃ sizes, (code, sizes) ∈ fieldSizes ∧ length ∈ sizes) ↔
      (code = 0x01 ∧ length ∈ [5, 10, 15, 20, 25, 30, 35, 40]) ∨ (code, length) ∈ fixedFieldSizes := by
  rw [fieldSizes_eq]
  constructor
  · rintro ⟨sizes, entry, fits⟩
    rcases List.mem_cons.mp entry with report | listed
    · cases report
      exact .inl ⟨rfl, fits⟩
    · obtain ⟨⟨c, n⟩, fixed, same⟩ := List.mem_map.mp listed
      cases same
      exact .inr (List.mem_singleton.mp fits ▸ fixed)
  · rintro (⟨rfl, fits⟩ | entry)
    · exact ⟨_, List.mem_cons_self, fits⟩
    · exact ⟨[length], List.mem_cons_of_mem _ (List.mem_map.mpr ⟨_, entry, rfl⟩), List.mem_singleton_self _⟩

/-- A field request is spelled by exactly the payloads of the right size (R199). -/
theorem parseField_isSome_iff {kind : NodeKind} {code : Nat} (known : fieldCode kind code = true) (payload : List Byte) :
    (parseField code payload).isSome = true ↔ ∃ sizes, (code, sizes) ∈ fieldSizes ∧ payload.length ∈ sizes := by
  rw [fieldSizes_iff]
  rcases fieldCode_listed known with rfl | listed
  · rw [parseField_report_isSome_iff]
    simp [fixedFieldSizes]
  · rw [isSome_iff_of_sizes parseField_ofFn parseField_otherSize listed]
    refine (or_iff_right ?_).symm
    rintro ⟨rfl, -⟩
    exact absurd listed (by decide)

/-! ### Line master requests (R199) -/

theorem parseLine_ofFn (final : Bool) : ∀ x ∈ lineSizes, ∀ payload : Fin x.2 → Byte,
    (parseLine x.1 (List.ofFn payload) final).isSome = true := by
  unfold lineSizes
  repeat refine List.forall_mem_cons.mpr ⟨fun _ => rfl, ?_⟩
  exact List.forall_mem_nil _

theorem parseLine_otherSize (final : Bool) : ∀ x ∈ lineSizes, ∀ payload : List Byte, payload.length ≠ x.2 →
    parseLine x.1 payload final = none := by
  unfold lineSizes
  repeat
    refine List.forall_mem_cons.mpr ⟨?_, ?_⟩
    · repeat refine forall_length_ne_succ rfl fun _ => ?_
      exact forall_length_ne_zero fun _ _ => rfl
  exact List.forall_mem_nil _

theorem parseLine_load (payload : List Byte) (final : Bool) :
    parseLine 0x56 payload final = (tariffPart payload).map (.loadTariff · final) := rfl

theorem lineCode_iff (code : Nat) : lineCode code = true ↔ code = 0x56 ∨ code ∈ lineSizes.map Prod.fst :=
  List.contains_iff_mem.trans ((by decide : List.Perm _ (0x56 :: lineSizes.map Prod.fst)).mem_iff.trans List.mem_cons)

/-- A line master request is spelled by exactly the payloads of the right size (R199). -/
theorem parseLine_isSome_iff {code : Nat} (known : lineCode code = true) (payload : List Byte) (final : Bool) :
    (parseLine code payload final).isSome = true ↔ lineSizeRight code payload := by
  rcases (lineCode_iff code).mp known with rfl | listed
  · rw [parseLine_load, Option.isSome_map, tariffPart_isSome_iff]
    simp [lineSizeRight, lineSizes]
  · rw [isSome_iff_of_sizes (parse := fun code payload => parseLine code payload final) (parseLine_ofFn final)
      (parseLine_otherSize final) listed]
    refine (or_iff_left ?_).symm
    rintro ⟨rfl, -⟩
    exact absurd listed (by decide)

end Sys2Proof
end

section
/-! PROOFS. The judgement of a frame by its structure, its sum, its code and its size (R187, R192). -/

namespace Sys2Proof

open Sys2Proof.Machine Sys2Proof.Claims

/-- The verdict on a frame that has passed the checks before its size: OK with the request that it spells, if it spells one. -/
def sizeVerdict : Option Instr → LinkStatus × Option Instr
  | none => (.form, none)
  | some i => (.ok, some i)

theorem sizeVerdict_wrong {parsed : Option Instr} (wrong : ¬parsed.isSome = true) : sizeVerdict parsed = (.form, none) := by
  rw [Option.not_isSome_iff_eq_none.mp wrong, sizeVerdict]

theorem sizeVerdict_right {parsed : Option Instr} (right : parsed.isSome = true) : ∃ i, sizeVerdict parsed = (.ok, some i) := by
  obtain ⟨i, rfl⟩ := Option.isSome_iff_exists.mp right
  exact ⟨i, rfl⟩

/-- A frame of good structure with one of some end markers is of the shape of R187 and R192. -/
theorem structureGood_iff_shaped (ends bytes : List Byte) :
    (structureGood bytes = true ∧ ∃ last ∈ ends, bytes.getLast? = some last) ↔
      ∃ code payload sum, shaped ends bytes code payload sum := by
  constructor
  · rintro ⟨good, last, ending, marker⟩
    obtain ⟨code, payload, sum, last', short, rfl⟩ := structureGood_cases good
    rw [getLast?_frameBytes] at marker
    exact ⟨code, payload, sum, short, last, ending, Option.some.inj marker ▸ rfl⟩
  · rintro ⟨code, payload, sum, short, last, ending, rfl⟩
    exact ⟨structureGood_frameBytes code sum last short, last, ending, getLast?_frameBytes code payload sum last⟩

theorem judgeField_malformed (kind : NodeKind) {f : List FieldChar}
    (bad : (∃ c ∈ f, c.mark = true) ∨ ∀ code payload sum, ¬shaped [0x3C] (f.map FieldChar.data) code payload sum) :
    judgeField kind f = (.form, none) := by
  refine if_pos ((Bool.not_eq_true' _).mpr (Bool.eq_false_iff.mpr fun formed => ?_))
  simp only [Bool.and_eq_true, List.all_eq_true, Bool.not_eq_true', beq_iff_eq] at formed
  obtain ⟨⟨clean, good⟩, marker⟩ := formed
  rcases bad with ⟨c, member, fault⟩ | misshaped
  · exact Bool.false_ne_true ((clean c member).symm.trans fault)
  · obtain ⟨code, payload, sum, shape⟩ := (structureGood_iff_shaped [0x3C] _).mp ⟨good, _, List.mem_singleton_self _, marker⟩
    exact misshaped code payload sum shape

theorem judgePort_malformed {f : List PortChar}
    (bad : (∃ c ∈ f, c.framingError = true) ∨
      ∀ code payload sum, ¬shaped [0x3C, 0x3D] (f.map PortChar.data) code payload sum) :
    judgePort f = (.form, none) := by
  refine if_pos ((Bool.not_eq_true' _).mpr (Bool.eq_false_iff.mpr fun formed => ?_))
  simp only [Bool.and_eq_true, Bool.or_eq_true, List.all_eq_true, Bool.not_eq_true', beq_iff_eq] at formed
  obtain ⟨⟨clean, good⟩, marker⟩ := formed
  rcases bad with ⟨c, member, fault⟩ | misshaped
  · exact Bool.false_ne_true ((clean c member).symm.trans fault)
  · have ending : ∃ last ∈ [0x3C, 0x3D], (f.map PortChar.data).getLast? = some last := by
      rcases marker with final | continued
      · exact ⟨_, List.mem_cons_self, final⟩
      · exact ⟨_, List.mem_cons_of_mem _ List.mem_cons_self, continued⟩
    obtain ⟨code, payload, sum, shape⟩ := (structureGood_iff_shaped _ _).mp ⟨good, ending⟩
    exact misshaped code payload sum shape

section Judged

variable {code sum : Byte} {payload : List Byte} (short : payload.length ≤ 250)
include short

/-- The checks of R187 behind that of the structure, in their order. -/
theorem judgeField_frameBytes (kind : NodeKind) {f : List FieldChar} (clean : ∀ c ∈ f, c.mark = false)
    (bytes : f.map FieldChar.data = frameBytes code payload sum finalMarker) :
    judgeField kind f =
      if ¬frameTotal code payload sum % 256 = 0 then (.sum, none)
      else if ¬fieldCode kind code.toNat = true then (.unknown, none)
      else sizeVerdict (parseField code.toNat payload) := by
  have formed : (f.all (fun c => !c.mark) && structureGood (f.map FieldChar.data) &&
      (f.map FieldChar.data).getLast? == some finalMarker) = true := by
    rw [bytes, structureGood_frameBytes code sum finalMarker short, getLast?_frameBytes]
    simpa using clean
  refine (if_neg (by rw [formed]; exact Bool.false_ne_true)).trans (if_congr ?_ rfl (if_congr ?_ rfl ?_))
  · rw [bytes, ← sumGood_frameBytes_iff code sum finalMarker short, Bool.not_eq_true', Bool.not_eq_true]
  · rw [bytes, codeOf_frameBytes, Bool.not_eq_true', Bool.not_eq_true]
  · rw [bytes, codeOf_frameBytes, payloadOf_frameBytes]
    cases parseField code.toNat payload <;> rfl

/-- The checks of R192 behind that of the structure, in their order. -/
theorem judgePort_frameBytes {f : List PortChar} (clean : ∀ c ∈ f, c.framingError = false) {last : Byte}
    (ending : last ∈ [finalMarker, continuedMarker]) (bytes : f.map PortChar.data = frameBytes code payload sum last) :
    judgePort f =
      if ¬frameTotal code payload sum % 256 = 0 then (.sum, none)
      else if ¬lineCode code.toNat = true then (.unknown, none)
      else if last = continuedMarker ∧ code.toNat ≠ 0x56 then (.form, none)
      else sizeVerdict (parseLine code.toNat payload (last == finalMarker)) := by
  have formed : (f.all (fun c => !c.framingError) && structureGood (f.map PortChar.data) &&
      ((f.map PortChar.data).getLast? == some finalMarker || (f.map PortChar.data).getLast? == some continuedMarker)) =
        true := by
    rw [bytes, structureGood_frameBytes code sum last short, getLast?_frameBytes]
    simp only [List.mem_cons, List.not_mem_nil, or_false] at ending
    simpa [ending] using clean
  refine (if_neg (by rw [formed]; exact Bool.false_ne_true)).trans
    (if_congr ?_ rfl (if_congr ?_ rfl (if_congr ?_ rfl ?_)))
  · rw [bytes, ← sumGood_frameBytes_iff code sum last short, Bool.not_eq_true', Bool.not_eq_true]
  · rw [bytes, codeOf_frameBytes, Bool.not_eq_true', Bool.not_eq_true]
  · rw [bytes, codeOf_frameBytes, getLast?_frameBytes]
    simp
  · rw [bytes, codeOf_frameBytes, payloadOf_frameBytes, getLast?_frameBytes]
    rw [Option.some_beq_some]
    cases parseLine code.toNat payload (last == finalMarker) <;> rfl

end Judged

/-- Settles O58: a frame of good structure is judged by its sum, its code and its size, and the payloads of the right sizes
are those that spell a request. -/
theorem framesAreJudgedInOrder : Obligations.FramesAreJudgedInOrder := by
  refine ⟨fun kind f => ?_, fun f => ?_⟩
  · intro data codes
    refine ⟨judgeField_malformed kind, ?_⟩
    rintro code payload sum clean ⟨short, last, ending, bytes⟩
    cases List.mem_singleton.mp ending
    have judged := judgeField_frameBytes short kind clean bytes
    have known : fieldCode kind code.toNat = true ↔ code.toNat ∈ codes := by
      cases kind
      exacts [fieldCode_potNode_iff _, fieldCode_unitNode_iff _]
    refine ⟨fun uneven => ?_, fun zero foreign => ?_, fun zero listed wrong => ?_, fun zero listed right => ?_⟩
    · rw [judged, if_pos uneven]
    · rw [judged, if_neg (not_not.mpr zero), if_pos (mt known.mp foreign)]
    · rw [judged, if_neg (not_not.mpr zero), if_neg (not_not.mpr (known.mpr listed))]
      exact sizeVerdict_wrong (mt (parseField_isSome_iff (known.mpr listed) payload).mp wrong)
    · rw [judged, if_neg (not_not.mpr zero), if_neg (not_not.mpr (known.mpr listed))]
      exact sizeVerdict_right ((parseField_isSome_iff (known.mpr listed) payload).mpr right)
  · refine ⟨judgePort_malformed, ?_⟩
    rintro code payload sum clean ⟨short, last, ending, bytes⟩
    have judged := judgePort_frameBytes short clean ending bytes
    have known := lineCode_iff code.toNat
    have marker : (f.map PortChar.data).getLast? = some 0x3D ↔ last = continuedMarker := by
      rw [bytes]
      exact (congrArg (· = _) (getLast?_frameBytes code payload sum last)).to_iff.trans Option.some_inj
    refine ⟨fun uneven => ?_, fun zero foreign => ?_, fun zero listed wrong => ?_, fun zero listed right => ?_⟩
    · rw [judged, if_pos uneven]
    · rw [judged, if_neg (not_not.mpr zero), if_pos (mt known.mp foreign)]
    · rw [judged, if_neg (not_not.mpr zero), if_neg (not_not.mpr (known.mpr listed))]
      split_ifs with continued
      · rfl
      · refine sizeVerdict_wrong fun spelled => wrong ⟨(parseLine_isSome_iff (known.mpr listed) payload _).mp spelled, ?_⟩
        exact fun ends => not_not.mp fun other => continued ⟨marker.mp ends, other⟩
    · rw [judged, if_neg (not_not.mpr zero), if_neg (not_not.mpr (known.mpr listed)),
        if_neg fun continued => continued.2 (right.2 (marker.mpr continued.1))]
      exact sizeVerdict_right ((parseLine_isSome_iff (known.mpr listed) payload _).mpr right.1)

end Sys2Proof
end

section
/-! PROOFS. The frame of a field request, read back (R187, R189, R198, R199). -/

namespace Sys2Proof

open Sys2Proof.Machine Sys2Proof.Claims

theorem unbe_two {n : Nat} (fits : fits2 n = true) : unbe (be 2 n) = n :=
  unbe_be_of_lt (of_decide_eq_true fits)

/-- The one byte of a number that fits it. -/
theorem byte_toNat {n : Nat} (fits : fits1 n = true) : (BitVec.ofNat 8 (n / 256 ^ 0)).toNat = n := by
  simpa [fits1] using fits

/-- The flags of a unit report stand in bits 0 and 1 of their byte. -/
theorem flags_read (flowOk closed : Bool) :
    (BitVec.ofNat 8 ((flagBit flowOk 0 + flagBit closed 1) / 256 ^ 0)).getLsbD 0 = flowOk ∧
      (BitVec.ofNat 8 ((flagBit flowOk 0 + flagBit closed 1) / 256 ^ 0)).getLsbD 1 = closed := by
  cases flowOk <;> cases closed <;> decide

theorem reportItems_itemBytes {items : List ReportItem} (fits : ∀ i ∈ items, i.wellFormed = true) :
    reportItems (items.flatMap fun i => be 2 i.position ++ be 1 i.tag ++ be 2 i.voltage) = some items := by
  induction items with
  | nil => rfl
  | cons i rest ih =>
    rw [List.forall_mem_cons] at fits
    obtain ⟨first, later⟩ := fits
    simp only [ReportItem.wellFormed, Bool.and_eq_true] at first
    obtain ⟨⟨position, tag⟩, voltage⟩ := first
    refine (congrArg (Option.map _) (ih later)).trans ?_
    change some (ReportItem.mk (unbe (be 2 i.position)) (BitVec.ofNat 8 (i.tag / 256 ^ 0)).toNat (unbe (be 2 i.voltage)) ::
      rest) = _
    rw [unbe_two position, byte_toNat tag, unbe_two voltage]

/-- What the bytes of a field request spell is that request. -/
theorem parseField_fieldRequest {c : Instr} {code : Nat} {payload : List Byte} (fits : c.wellFormed = true)
    (spelled : fieldRequest c = some (code, payload)) : parseField code payload = some c := by
  cases c <;> cases spelled <;> simp only [Instr.wellFormed, Bool.and_eq_true] at fits
  case potReport.refl items =>
    obtain ⟨count, each⟩ := fits
    simp only [oneTo, Bool.and_eq_true, decide_eq_true_eq] at count
    rw [parseField_report, reportItems_itemBytes (List.all_eq_true.mp each), Option.bind_some, if_pos count]
  case switchRequest.refl p t d =>
    obtain ⟨⟨position, tag⟩, direction⟩ := fits
    change some (Instr.switchRequest (unbe (be 2 p)) (BitVec.ofNat 8 (t / 256 ^ 0)).toNat
      (BitVec.ofNat 8 (d / 256 ^ 0)).toNat) = _
    rw [unbe_two position, byte_toNat tag, byte_toNat direction]
  case switchDone.refl p t | switchCancel.refl p t | quenchEnd.refl p t =>
    obtain ⟨position, tag⟩ := fits
    exact congrArg some (congrArg₂ _ (unbe_two position) (byte_toNat tag))
  case unitReport.refl u m t f b =>
    obtain ⟨⟨unit, measured⟩, temperature⟩ := fits
    obtain ⟨flow, breaker⟩ := flags_read f b
    change some (Instr.unitReport (BitVec.ofNat 8 (u / 256 ^ 0)).toNat (unbe (be 2 m)) (unbe (be 2 t)) (BitVec.getLsbD _ 0)
      (BitVec.getLsbD _ 1)) = _
    rw [byte_toNat unit, unbe_two measured, unbe_two temperature, flow, breaker]
  case pass.refl => rfl

/-- The size of a field request's payload (R199). -/
theorem fieldRequest_length {c : Instr} {code : Nat} {payload : List Byte} (fits : c.wellFormed = true)
    (spelled : fieldRequest c = some (code, payload)) : payload.length ≤ 40 := by
  cases c <;> cases spelled
  case potReport.refl items =>
    simp only [Instr.wellFormed, oneTo, Bool.and_eq_true, decide_eq_true_eq] at fits
    rw [length_flatMap_const _ 5 (fun i => by simp)]
    omega
  all_goals simp

theorem fieldRequest_code {c : Instr} {code : Nat} {payload : List Byte} (spelled : fieldRequest c = some (code, payload)) :
    (BitVec.ofNat 8 code).toNat = code := by
  cases c <;> cases spelled <;> rfl

theorem encodeField_eq {c : Instr} {code : Nat} {payload : List Byte} (spelled : fieldRequest c = some (code, payload)) :
    encodeField c = some ((frameAround (be 1 code ++ payload) finalMarker).map (FieldChar.mk false)) := by
  rw [encodeField, spelled]
  rfl

/-- Settles O59: the frame has a good structure and adds up to 0, and its payload spells the request. -/
theorem fieldFrameGivesRequestBack : Obligations.FieldFrameGivesRequestBack := by
  intro c code payload frame kind fits spelled encoded known
  have short := fieldRequest_length fits spelled
  have own := fieldRequest_code spelled
  obtain ⟨sum, bytes, even⟩ := frameAround_eq code payload finalMarker
  cases (encodeField_eq spelled).symm.trans encoded
  rw [bytes] at even ⊢
  have clean : ∀ c ∈ (frameBytes (BitVec.ofNat 8 code) payload sum finalMarker).map (FieldChar.mk false), c.mark = false := by
    simp
  have data : ((frameBytes (BitVec.ofNat 8 code) payload sum finalMarker).map (FieldChar.mk false)).map FieldChar.data =
      frameBytes (BitVec.ofNat 8 code) payload sum finalMarker := by simp [Function.comp_def]
  have zero := (sumGood_frameBytes_iff _ sum finalMarker (by omega : payload.length ≤ 250)).mp even
  rw [judgeField_frameBytes (by omega) kind clean data, own, parseField_fieldRequest fits spelled,
    if_neg (not_not.mpr zero), if_neg (not_not.mpr known)]
  rfl

end Sys2Proof
end

section
/-! PROOFS. The frame of a line master request, read back (R192, R197, R198, R199). -/

namespace Sys2Proof

open Sys2Proof.Machine Sys2Proof.Claims

/-! ### The sections of a LOAD TARIFF frame (R197) -/

theorem unbe_four {n : Nat} (fits : fits4 n = true) : unbe (be 4 n) = n :=
  unbe_be_of_lt (of_decide_eq_true fits)

theorem unbe_one {n : Nat} (fits : fits1 n = true) : unbe (be 1 n) = n :=
  unbe_be_of_lt (of_decide_eq_true fits)

theorem changePoints_pointBytes {points : List ChangePoint} (fits : ∀ c ∈ points, c.wellFormed = true) :
    changePoints (points.flatMap fun c => be 4 c.second ++ be 1 c.band) = some points := by
  induction points with
  | nil => rfl
  | cons c rest ih =>
    rw [List.forall_mem_cons] at fits
    obtain ⟨first, later⟩ := fits
    simp only [ChangePoint.wellFormed, Bool.and_eq_true] at first
    obtain ⟨second, band⟩ := first
    refine (congrArg (Option.map _) (ih later)).trans ?_
    exact congrArg (fun first => some (first :: rest)) (congrArg₂ ChangePoint.mk (unbe_four second) (byte_toNat band))

/-- A schedule of at most 49 points is read back with its count (R192, R199). -/
theorem schedulePoints_scheduleBytes {points : List ChangePoint}
    (fits : (points.length ≤ 49 && points.all ChangePoint.wellFormed) = true) :
    schedulePoints (scheduleBytes points) = some points := by
  simp only [Bool.and_eq_true, decide_eq_true_eq, List.all_eq_true] at fits
  obtain ⟨few, each⟩ := fits
  have count : points.length = (BitVec.ofNat 8 points.length).toNat := by
    rw [BitVec.toNat_ofNat]
    omega
  rw [scheduleBytes, be_one, List.singleton_append, schedulePoints, changePoints_pointBytes each, Option.bind_some,
    if_pos count]

theorem headerPart_headerBytes {h : TariffHeader} (fits : (TariffPart.header h).wellFormed = true) :
    headerPart (be 2 h.length ++ be 1 h.bandCount ++ be 4 h.limit1 ++ be 4 h.limit2 ++ be 4 h.limit3 ++ be 4 h.limit4 ++
      be 1 h.restMask) = some h := by
  simp only [TariffPart.wellFormed, Bool.and_eq_true] at fits
  obtain ⟨⟨⟨⟨⟨⟨length, count⟩, first⟩, second⟩, third⟩, fourth⟩, mask⟩ := fits
  rw [headerPart, if_pos (by simp)]
  change some (TariffHeader.mk (unbe (be 2 h.length)) (unbe (be 1 h.bandCount)) (unbe (be 4 h.limit1))
    (unbe (be 4 h.limit2)) (unbe (be 4 h.limit3)) (unbe (be 4 h.limit4)) (unbe (be 1 h.restMask))) = some h
  rw [unbe_two length, unbe_one count, unbe_four first, unbe_four second, unbe_four third, unbe_four fourth, unbe_one mask]

theorem tariffPart_partBytes {part : TariffPart} (fits : part.wellFormed = true) :
    tariffPart (partBytes part) = some part := by
  cases part with
  | header h => exact congrArg (Option.map TariffPart.header) (headerPart_headerBytes fits)
  | working points => exact congrArg (Option.map TariffPart.working) (schedulePoints_scheduleBytes fits)
  | rest points => exact congrArg (Option.map TariffPart.rest) (schedulePoints_scheduleBytes fits)

theorem scheduleBytes_length (points : List ChangePoint) : (scheduleBytes points).length = 1 + 5 * points.length := by
  rw [scheduleBytes, List.length_append, be_length, length_flatMap_const _ 5 (fun c => by simp)]

theorem partBytes_length {part : TariffPart} (fits : part.wellFormed = true) : (partBytes part).length ≤ 247 := by
  cases part with
  | header h => simp [partBytes]
  | working points | rest points =>
    simp only [TariffPart.wellFormed, Bool.and_eq_true, decide_eq_true_eq] at fits
    simp only [partBytes, List.length_append, be_length, scheduleBytes_length]
    omega

/-! ### Every line master request (R199) -/

/-- What the bytes of a line master request spell, under its own end marker, is that request. -/
theorem parseLine_lineRequest {c : Instr} {code : Nat} {payload : List Byte} (fits : c.wellFormed = true)
    (spelled : lineRequest c = some (code, payload)) :
    parseLine code payload (endMarkerOf c == finalMarker) = some c := by
  cases c <;> cases spelled <;> simp only [Instr.wellFormed, Bool.and_eq_true] at fits
  case admitPot.refl p t o i =>
    obtain ⟨⟨⟨position, tag⟩, owner⟩, initial⟩ := fits
    change some (Instr.admitPot (unbe (be 2 p)) (BitVec.ofNat 8 (t / 256 ^ 0)).toNat (BitVec.ofNat 8 (o / 256 ^ 0)).toNat
      (BitVec.ofNat 8 (i / 256 ^ 0)).toNat) = _
    rw [unbe_two position, byte_toNat tag, byte_toNat owner, byte_toNat initial]
  case assignOwner.refl p t o =>
    obtain ⟨⟨position, tag⟩, owner⟩ := fits
    change some (Instr.assignOwner (unbe (be 2 p)) (BitVec.ofNat 8 (t / 256 ^ 0)).toNat
      (BitVec.ofNat 8 (o / 256 ^ 0)).toNat) = _
    rw [unbe_two position, byte_toNat tag, byte_toNat owner]
  case defineUnit.refl u n r v d t =>
    obtain ⟨⟨⟨⟨⟨unit, node⟩, rated⟩, vMax⟩, derate⟩, trip⟩ := fits
    change some (Instr.defineUnit (BitVec.ofNat 8 (u / 256 ^ 0)).toNat (BitVec.ofNat 8 (n / 256 ^ 0)).toNat (unbe (be 2 r))
      (unbe (be 4 v)) (unbe (be 2 d)) (unbe (be 2 t))) = _
    rw [byte_toNat unit, byte_toNat node, unbe_two rated, unbe_four vMax, unbe_two derate, unbe_two trip]
  case retirePot.refl p t =>
    obtain ⟨position, tag⟩ := fits
    exact congrArg some (congrArg₂ _ (unbe_two position) (byte_toNat tag))
  case readPotRange.refl first count =>
    obtain ⟨low, many⟩ := fits
    exact congrArg some (congrArg₂ _ (unbe_two low) (unbe_two many))
  case addNode.refl first second | ackAttention.refl first second =>
    obtain ⟨one, two⟩ := fits
    exact congrArg some (congrArg₂ _ (byte_toNat one) (byte_toNat two))
  case setParam.refl i v =>
    obtain ⟨identifier, value⟩ := fits
    exact congrArg some (congrArg₂ _ (byte_toNat identifier) (unbe_four value))
  case setClock.refl time day =>
    obtain ⟨seconds, weekday⟩ := fits
    exact congrArg some (congrArg₂ _ (unbe_four seconds) (byte_toNat weekday))
  case curtail.refl limit minutes =>
    obtain ⟨power, span⟩ := fits
    exact congrArg some (congrArg₂ _ (unbe_four power) (unbe_two span))
  case readPot.refl n | setTarget.refl n | setAttentionMask.refl n =>
    exact congrArg some (congrArg _ (unbe_two fits))
  case removeUnit.refl n | tripUnit.refl n | restoreUnit.refl n | readUnit.refl n | dropNode.refl n | readParam.refl n |
      readTariff.refl n =>
    exact congrArg some (congrArg _ (byte_toNat fits))
  case loadTariff.refl part final =>
    have marked : (endMarkerOf (.loadTariff part final) == finalMarker) = final := by cases final <;> rfl
    rw [parseLine_load, marked, tariffPart_partBytes fits, Option.map_some]
  all_goals rfl

/-- The size of a line master request's payload (R199). -/
theorem lineRequest_length {c : Instr} {code : Nat} {payload : List Byte} (fits : c.wellFormed = true)
    (spelled : lineRequest c = some (code, payload)) : payload.length ≤ 247 := by
  cases c <;> cases spelled
  case loadTariff => exact partBytes_length fits
  all_goals simp

theorem lineRequest_code {c : Instr} {code : Nat} {payload : List Byte} (spelled : lineRequest c = some (code, payload)) :
    (BitVec.ofNat 8 code).toNat = code ∧ lineCode code = true := by
  cases c <;> cases spelled <;> exact ⟨rfl, rfl⟩

theorem endMarkerOf_mem (c : Instr) : endMarkerOf c ∈ [finalMarker, continuedMarker] := by
  unfold endMarkerOf
  split
  · exact List.mem_cons_of_mem _ List.mem_cons_self
  · exact List.mem_cons_self

/-- Only a LOAD TARIFF frame ends with the continued marker (R192). -/
theorem lineRequest_continued {c : Instr} {code : Nat} {payload : List Byte}
    (spelled : lineRequest c = some (code, payload)) (continued : endMarkerOf c = continuedMarker) : code = 0x56 := by
  unfold endMarkerOf at continued
  split at continued
  · cases spelled
    rfl
  · exact absurd continued (by decide)

theorem encodeLine_eq_some {c : Instr} {frame : List PortChar} (encoded : encodeLine c = some frame) :
    ∃ code payload, lineRequest c = some (code, payload) ∧
      (frameAround (be 1 code ++ payload) (endMarkerOf c)).map (PortChar.mk false) = frame := by
  obtain ⟨⟨code, payload⟩, spelled, chars⟩ := Option.map_eq_some_iff.mp encoded
  exact ⟨code, payload, spelled, chars⟩

/-- Settles O60: the frame has a good structure and adds up to 0, its marker is one its code may have, and its payload spells
the request. -/
theorem lineFrameGivesRequestBack : Obligations.LineFrameGivesRequestBack := by
  intro c frame fits encoded
  obtain ⟨code, payload, spelled, rfl⟩ := encodeLine_eq_some encoded
  have short : payload.length ≤ 250 := (lineRequest_length fits spelled).trans (by decide)
  obtain ⟨own, known⟩ := lineRequest_code spelled
  obtain ⟨sum, bytes, even⟩ := frameAround_eq code payload (endMarkerOf c)
  rw [bytes] at even ⊢
  have clean : ∀ c' ∈ (frameBytes (BitVec.ofNat 8 code) payload sum (endMarkerOf c)).map (PortChar.mk false),
      c'.framingError = false := by simp
  have data : ((frameBytes (BitVec.ofNat 8 code) payload sum (endMarkerOf c)).map (PortChar.mk false)).map PortChar.data =
      frameBytes (BitVec.ofNat 8 code) payload sum (endMarkerOf c) := by simp [Function.comp_def]
  have zero := (sumGood_frameBytes_iff _ sum (endMarkerOf c) short).mp even
  rw [judgePort_frameBytes short clean (endMarkerOf_mem c) data, own, parseLine_lineRequest fits spelled,
    if_neg (not_not.mpr zero), if_neg (not_not.mpr known),
    if_neg fun continued => continued.2 (lineRequest_continued spelled continued.1)]
  rfl

end Sys2Proof
end

section
/-! PROOFS. The bytes of a reply frame, its sum and its codes (R195, R196, R198). -/

namespace Sys2Proof.Machine

open Sys2Proof.Claims

/-! ### The frame of a reply -/

theorem linkCode_toNat (link : LinkStatus) : (BitVec.ofNat 8 (linkCode link)).toNat = linkCode link := by
  cases link <;> rfl

theorem ReqStatus.code_toNat (status : ReqStatus) : (BitVec.ofNat 8 status.code).toNat = status.code := by
  cases status <;> rfl

/-- The end marker of a reply: 3Dh where more frames of it follow (R196, R198). -/
def Reply.marker (r : Reply) : Byte :=
  if r.continued then continuedMarker else finalMarker

theorem Reply.marker_iff (r : Reply) :
    (r.marker = 0x3C ↔ r.continued = false) ∧ (r.marker = 0x3D ↔ r.continued = true) := by
  unfold Reply.marker
  cases r.continued <;> decide

/-- The frame of a reply is one of its link status, with the request status before the payload, and it adds up to 0. -/
theorem Reply.bytes_eq (r : Reply) :
    ∃ sum, r.bytes = frameBytes (BitVec.ofNat 8 (linkCode r.link)) (be 1 r.status.code ++ r.payload) sum r.marker ∧
      sumGood r.bytes = true := by
  have bytes : r.bytes = frameAround (be 1 (linkCode r.link) ++ (be 1 r.status.code ++ r.payload)) r.marker := by
    rw [← List.append_assoc]
    rfl
  rw [bytes]
  exact frameAround_eq _ _ _

theorem foldl_toNat (bs : List Byte) (a : Nat) :
    bs.foldl (fun a b => a + b.toNat) a = a + (bs.map BitVec.toNat).sum := by
  induction bs generalizing a with
  | nil => rfl
  | cons b bs ih => rw [List.foldl_cons, ih, List.map_cons, List.sum_cons, Nat.add_assoc]

/-- What the bytes of a reply from the length through the sum add up to. -/
theorem frameTotal_reply (r : Reply) (sum : Byte) :
    frameTotal (BitVec.ofNat 8 (linkCode r.link)) (be 1 r.status.code ++ r.payload) sum =
      r.payload.foldl (fun a b => a + b.toNat)
        ((r.payload.length + 2) + linkCode r.link + r.status.code + sum.toNat) := by
  rw [foldl_toNat, frameTotal, be_one, List.singleton_append, List.length_cons, List.map_cons, List.sum_cons,
    linkCode_toNat, ReqStatus.code_toNat]
  omega

theorem Reply.bytes_spec (r : Reply) (short : r.payload.length ≤ 249) :
    ∃ sum, r.bytes = [0xC3, BitVec.ofNat 8 (r.payload.length + 2), BitVec.ofNat 8 (linkCode r.link),
        BitVec.ofNat 8 r.status.code] ++ r.payload ++ [sum, r.marker] ∧
      (r.payload.foldl (fun a b => a + b.toNat)
        ((r.payload.length + 2) + linkCode r.link + r.status.code + sum.toNat)) % 256 = 0 := by
  obtain ⟨sum, bytes, even⟩ := r.bytes_eq
  rw [bytes] at even ⊢
  refine ⟨sum, ?_, ?_⟩
  · simp [frameBytes, be_one]
  · have fits : (be 1 r.status.code ++ r.payload).length ≤ 250 := by
      rw [List.length_append, be_length]
      omega
    rw [← frameTotal_reply]
    exact (sumGood_frameBytes_iff _ sum _ fits).mp even

/-! ### Codes and numbers -/

theorem be_two (n : Nat) : be 2 n = [BitVec.ofNat 8 (n / 256), BitVec.ofNat 8 n] := by
  simp [be]

theorem PotRecord.phaseCode_eq (r : PotRecord) :
    r.phaseCode = match r.switch with | some w => w.phase.code | none => 0 := by
  unfold PotRecord.phaseCode
  cases r.switch <;> rfl

/-- Settles O57: a reply frame is a frame of its link status whose sum makes it add up to 0; the codes are those listed. -/
theorem replyFrameAddsUpToZero : Obligations.ReplyFrameAddsUpToZero := by
  refine ⟨fun r short => ?_, fun k n => ⟨be_length k n, unbe_be k n⟩, be_two, currentBytes_inRange, currentBytes_length, ?_⟩
  · obtain ⟨sum, bytes, zero⟩ := r.bytes_spec short
    obtain ⟨final, continued⟩ := r.marker_iff
    exact ⟨sum, r.marker, bytes, final, continued, zero⟩
  · exact ⟨rfl, rfl, rfl, rfl, rfl, rfl, rfl, rfl, rfl, rfl, rfl, rfl, rfl, rfl, PotRecord.phaseCode_eq⟩

end Sys2Proof.Machine
end

section
/-! PROOFS. The events of the line master port, and a receiver that takes no frame (R130, R192 to R196). -/

namespace Sys2Proof.Machine

/-! ### The events of the port -/

/-- The receiver takes no frame while a reply is being sent (R194) or a break waits for the idle level (R193). -/
theorem LinePort.takes_eq_false_iff (p : LinePort) : p.takes = false ↔ p.reply ≠ none ∨ p.waitIdle = true := by
  rw [LinePort.takes, Bool.and_eq_false_iff, Bool.not_eq_false', Option.isNone_eq_false_iff, Option.isSome_iff_ne_none]

theorem exec_lmFrameRefused {s : State} {frame : List PortChar} {link : LinkStatus} {i : Option Instr}
    (judged : judgePort frame = (link, i)) (bad : link ≠ .ok) (takes : s.port.takes = true) :
    exec (.lmFrameRefused frame) s = .next (s.sendFrames ⟨link, .none, [], false⟩ []) := by
  refine congrArg Host.Outcome.next ?_
  rw [judged, if_pos ⟨takes, bad⟩]
  rfl

theorem exec_rangeFrameNext {s : State} {next : Reply} {rest : List Reply} (due : s.port.due = next :: rest) :
    exec .rangeFrameNext s = .next (s.sendFrames next rest) := by
  refine congrArg Host.Outcome.next ?_
  rw [due]

/-- The frame that ends is not the reply's last while a captured frame is due (R194, R196). -/
theorem exec_lmReplyEnd_due {s : State} (due : s.port.due ≠ []) : exec .lmReplyEnd s = .next s :=
  congrArg Host.Outcome.next (if_neg fun ended => due ended.2)

theorem exec_lmReplyEnd_last {s : State} (sending : s.port.reply ≠ none) (last : s.port.due = []) :
    exec .lmReplyEnd s = .next
      (s.withPort { s.port with reply := none, speed := s.current.params.portSpeed }) :=
  congrArg Host.Outcome.next (if_pos ⟨Option.isSome_iff_ne_none.mpr sending, last⟩)

/-! ### A receiver that takes no frame (R193, R194) -/

theorem State.takeRange_discarded (s : State) (first count : Nat) (busy : s.port.takes = false) :
    s.takeRange first count = s := by
  simp [State.takeRange, busy]

/-- No line master request is taken where the receiver takes no frame. -/
theorem exec_lineRequest_discarded {c : Instr} {s : State} (line : (lineRequest c).isSome = true)
    (busy : s.port.takes = false) : exec c s = .next s := by
  cases c <;> cases line
  case readPotRange first count => exact congrArg Host.Outcome.next (s.takeRange_discarded first count busy)
  case loadTariff => exact congrArg Host.Outcome.next (s.loadFrame_discarded _ busy)
  all_goals exact congrArg Host.Outcome.next (s.lineRequest_discarded _ busy)

/-- Settles O55: each event by its own lemma, and every line master request by the one lemma about a busy receiver. -/
theorem portEventsAndBusyReceiver : Obligations.PortEventsAndBusyReceiver := by
  refine ⟨fun s => ⟨rfl, rfl, rfl⟩, fun s f link i judged bad takes => exec_lmFrameRefused judged bad takes,
    fun s next rest due => ⟨exec_rangeFrameNext due, exec_lmReplyEnd_due (due ▸ List.cons_ne_nil _ _)⟩, ?_, ?_⟩
  · intro s r sending last
    exact exec_lmReplyEnd_last (sending ▸ Option.some_ne_none r) last
  · intro c s line busy
    exact exec_lineRequest_discarded (Option.isSome_iff_ne_none.mpr line) (s.port.takes_eq_false_iff.mpr busy)

end Sys2Proof.Machine
end

section
/-! PROOFS. Every command completes and leaves the commands that wait (chapters 1 to 11): what the shared operations do to
the queue, then the commands by the part of the block they enter at. -/

namespace Sys2Proof.Machine

/-! ### Evaluations and grants (R48, R112, R113) -/

@[simp] theorem State.eventEvaluation_pending (s : State) : s.eventEvaluation.pending = s.pending :=
  (State.evaluate_links s false).pending

@[simp] theorem State.grantEvaluation_pending (s : State) : s.grantEvaluation.pending = s.pending :=
  (State.grantEvaluation_links s).pending

/-! ### The switch queue (R63 to R75) -/

@[simp] theorem State.compareHead_pending (s : State) : s.compareHead.pending = s.pending := by
  rw [State.compareHead_frame]

@[simp] theorem State.endSwitch_pending (s : State) (p : Nat) (result : SwitchResult) :
    (s.endSwitch p result).pending = s.pending := by
  rw [State.endSwitch_frame]

@[simp] theorem State.expireSwitch_pending (s : State) (p : Nat) (result : SwitchResult) :
    (s.expireSwitch p result).pending = s.pending :=
  State.endSwitch_pending s p result

@[simp] theorem State.startSwitch_pending (s : State) (p : Nat) (d : Direction) :
    (s.startSwitch p d).pending = s.pending := by
  rw [State.startSwitch_eq]
  split
  · exact State.eventEvaluation_pending _
  · rfl

@[simp] theorem State.applySwitch_pending (s : State) (p : Nat) : (s.applySwitch p).pending = s.pending := by
  unfold State.applySwitch
  split
  · split <;> rfl
  · rfl

@[simp] theorem State.completeSwitch_pending (s : State) (p : Nat) : (s.completeSwitch p).pending = s.pending :=
  (State.endSwitch_pending _ p .completed).trans (s.applySwitch_pending p)

/-! ### Quench permits (R52 to R57) -/

@[simp] theorem State.freeSlotOf_pending (s : State) (p : Nat) : (s.freeSlotOf p).pending = s.pending := by
  rw [State.freeSlotOf_frame]

@[simp] theorem State.endQuench_pending (s : State) (p : Nat) : (s.endQuench p).pending = s.pending :=
  s.freeSlotOf_pending p

@[simp] theorem State.settleExpired_pending (s : State) (p : Nat) : (s.settleExpired p).pending = s.pending := rfl

@[simp] theorem State.permitExpired_pending (s : State) (k p : Nat) : (s.permitExpired k p).pending = s.pending := rfl

/-! ### The anode effect watch (R29 to R37) -/

@[simp] theorem State.escalate_pending (s : State) (p : Nat) : (s.escalate p).pending = s.pending := by
  unfold State.escalate
  dsimp only
  split
  · exact State.grantEvaluation_pending _
  · rfl

@[simp] theorem State.cancelByEffect_pending (s : State) (p : Nat) : (s.cancelByEffect p).pending = s.pending := by
  unfold State.cancelByEffect
  split
  · exact s.endSwitch_pending p _
  · rfl

@[simp] theorem State.confirmEffect_pending (s : State) (p : Nat) : (s.confirmEffect p).pending = s.pending :=
  (State.grantEvaluation_pending _).trans (State.cancelByEffect_pending _ p)

@[simp] theorem State.releaseClaim_pending (s : State) (p : Nat) : (s.releaseClaim p).pending = s.pending := by
  unfold State.releaseClaim
  split
  · rfl
  · exact (State.grantEvaluation_pending _).trans (s.freeSlotOf_pending p)
  · rfl
  · rfl

@[simp] theorem State.endEffect_pending (s : State) (p : Nat) : (s.endEffect p).pending = s.pending :=
  s.releaseClaim_pending p

@[simp] theorem State.examineReport_pending (s : State) (p : Nat) : (s.examineReport p).pending = s.pending := by
  rcases s.examineReport_cases p with same | ⟨r, written, -⟩ | confirmed | ended
  · rw [same]
  · rw [written, State.putPot_pending]
  · rw [confirmed, State.confirmEffect_pending]
  · rw [ended, State.endEffect_pending]

/-! ### Reports (R14, R15) -/

@[simp] theorem State.acceptReport_pending (s : State) (p v : Nat) : (s.acceptReport p v).pending = s.pending := by
  unfold State.acceptReport
  dsimp only
  split
  · exact State.examineReport_pending _ p
  · rfl

theorem State.takeItems_pending (node : Nat) (items : List ReportItem) (s : State) :
    (State.takeItems node items s).1.pending = s.pending := by
  induction items generalizing s with
  | nil => rfl
  | cons i rest ih =>
    refine (ih (s.takeItem node i).1).trans ?_
    unfold State.takeItem
    dsimp only
    split
    · exact s.acceptReport_pending _ _
    · rfl

/-! ### Units and the tick (R91 to R97, R136) -/

@[simp] theorem State.tripUnit_pending (s : State) (u : Nat) (cause : TripCause) :
    (s.tripUnit u cause).pending = s.pending :=
  State.eventEvaluation_pending _

@[simp] theorem State.loseUnit_pending (s : State) (u : Nat) : (s.loseUnit u).pending = s.pending :=
  State.eventEvaluation_pending _

@[simp] theorem State.silenceUnit_pending (s : State) (u : Nat) : (s.silenceUnit u).pending = s.pending := by
  rw [State.silenceUnit_eq]
  split
  · exact State.eventEvaluation_pending _
  · rfl

@[simp] theorem State.tick_pending (s : State) (shed : Bool) : (s.tick shed).pending = s.pending := by
  rw [State.tick_frame]

/-! ### Requests on the links (R165, R187, R194) -/

/-- A field request keeps the queue where its serving does. -/
theorem State.fieldRequest_pending (s : State) (kinds : List NodeKind) (serve : Nat → State → State × Reply)
    (served : ∀ node t, (serve node t).1.pending = t.pending) : (s.fieldRequest kinds serve).pending = s.pending :=
  State.fieldRequest_keeps (fun t => t.pending = s.pending) s kinds serve rfl (fun _ kept => kept)
    (fun node t kept => (served node t).trans kept) (fun _ _ kept => kept)

theorem State.loadFrame_pending (s : State) (serve : State → State × Reply)
    (served : ∀ t, (serve t).1.pending = t.pending) : (s.loadFrame serve).pending = s.pending :=
  State.loadFrame_keeps (fun t => t.pending = s.pending) s serve rfl (fun t kept => (served t).trans kept)
    (fun _ _ _ kept => kept)

theorem State.lineRequest_pending (s : State) (serve : State → State × Reply)
    (served : ∀ t, (serve t).1.pending = t.pending) : (s.lineRequest serve).pending = s.pending :=
  s.loadFrame_pending _ fun t => served t.abandonLoad

theorem State.takeRange_pending (s : State) (first count : Nat) : (s.takeRange first count).pending = s.pending := by
  unfold State.takeRange
  dsimp only
  split_ifs <;> rfl

theorem State.finishLoad_pending (s : State) (h : TariffHeader) (working rest : Option (List ChangePoint)) :
    (s.finishLoad h working rest).1.pending = s.pending := by
  unfold State.finishLoad
  split <;> rfl

theorem State.serveLoadTariff_pending (s : State) (part : TariffPart) (final : Bool) :
    (s.serveLoadTariff part final).1.pending = s.pending := by
  unfold State.serveLoadTariff
  split
  · split
    · rfl
    · cases part
      case header h => cases final; exacts [rfl, s.finishLoad_pending h _ _]
      all_goals rfl
  · cases part
    case working => cases final; exacts [rfl, s.finishLoad_pending _ _ _]
    all_goals rfl
  · cases part
    case rest => cases final; exacts [rfl, s.finishLoad_pending _ _ _]
    all_goals rfl

theorem State.serveSetParam_pending (s : State) (i v : Nat) : (s.serveSetParam i v).1.pending = s.pending := by
  unfold State.serveSetParam
  dsimp only [State.answer]
  split_ifs
  exacts [State.eventEvaluation_pending _, rfl, rfl]

theorem State.serveSetClock_pending (s : State) (time day : Nat) : (s.serveSetClock time day).1.pending = s.pending := by
  unfold State.serveSetClock
  split
  · rfl
  · rw [State.closed_eq]
    rfl

/-! ### The commands by where they enter the block -/

theorem exec_offLinks_pending (c : Instr) (s t : State) (off : offLinks c = true) (done : exec c s = .next t) :
    t.pending = s.pending := by
  cases c <;> cases off <;> cases done
  case dispatchCycle arbiterFirst =>
    rw [State.compareHead_pending, (State.cycleWork_links _ arbiterFirst).pending, State.dividerAdvanced_pending]
  case meteringTick => exact s.tick_pending _
  case dayRollover | intervalClose | curtailmentExpiry => split <;> simp
  case potSilence => split <;> rfl
  case startHoldExpiry =>
    dsimp only
    split <;> rfl
  case escalation | settleExpiry | flowGraceExpiry | unitSilence | unitLoss => split <;> simp
  case permitExpiry | rampFailure | windowExpiry =>
    split
    · split <;> simp
    · rfl
  case lmFrameGap => rfl

theorem exec_linkEvent_pending (c : Instr) (s t : State) (event : linkEvent c = true) (done : exec c s = .next t) :
    t.pending = s.pending := by
  cases c <;> cases event <;> cases done
  case miss =>
    split
    · rw [State.countMiss_frame]
    · rfl
  case fieldFrameRefused =>
    dsimp only
    split
    · split <;> rfl
    · rfl
  case turn | idleTime | fieldFrameGap | lmFrameRefused | rangeFrameNext | lmReplyEnd => split <;> rfl
  case lmBreak | lmrxIdleReturn => rfl

theorem exec_fieldRequest_pending (c : Instr) (s t : State) (field : (fieldRequest c).isSome = true)
    (done : exec c s = .next t) : t.pending = s.pending := by
  cases c <;> cases field <;> cases done
  case potReport items => exact s.fieldRequest_pending _ _ fun node u => State.takeItems_pending node items u
  case pass => exact s.fieldRequest_pending _ _ fun _ _ => rfl
  case switchRequest | switchDone | switchCancel | quenchEnd =>
    refine s.fieldRequest_pending _ _ fun _ u => ?_
    simp only [State.serveSwitchRequest, State.serveSwitchDone, State.serveSwitchCancel, State.serveQuenchEnd]
    split <;> simp
  case unitReport =>
    refine s.fieldRequest_pending _ _ fun _ u => ?_
    unfold State.serveUnitReport
    dsimp only
    split
    · exact State.acceptUnitReport_links.pending
    · rfl

theorem exec_lineRequest_pending (c : Instr) (s t : State) (line : (lineRequest c).isSome = true)
    (done : exec c s = .next t) : t.pending = s.pending := by
  cases c <;> cases line <;> cases done
  case readPotRange first count => exact s.takeRange_pending first count
  case loadTariff part final => exact s.loadFrame_pending _ fun u => u.serveLoadTariff_pending part final
  case setParam => exact s.lineRequest_pending _ fun u => u.serveSetParam_pending _ _
  case setClock => exact s.lineRequest_pending _ fun u => u.serveSetClock_pending _ _
  case readNodes | setTarget | readLine | readMeter | readPeriod | closePeriod | lockTariff | getAttention =>
    exact s.lineRequest_pending _ fun _ => rfl
  case admitPot | retirePot | assignOwner | readPot | readUnit | readParam | curtail | cancelCurtail | readTariff |
      ackAttention | setAttentionMask | addNode | dropNode =>
    refine s.lineRequest_pending _ fun u => ?_
    simp only [State.serveAdmit, State.serveRetire, State.serveAssign, State.serveReadPot, State.serveReadUnit,
      State.serveReadParam, State.serveCurtail, State.serveCancelCurtail, State.serveReadTariff, State.serveAck,
      State.serveSetMask, State.serveAddNode, State.serveDropNode]
    repeat' split
    all_goals rfl
  case defineUnit | removeUnit | tripUnit | restoreUnit | run | hold | resume =>
    refine s.lineRequest_pending _ fun u => ?_
    simp only [State.serveDefineUnit, State.serveRemoveUnit, State.serveTripUnit, State.serveRestoreUnit, State.serveRun,
      State.serveHold, State.serveResume]
    split_ifs
    all_goals simp [State.answer]

/-! ### Every command -/

/-- The queue belongs to the sender: what a command leaves in it is what it found (notes/assumptions/23), RESET included
(notes/assumptions/22). -/
theorem exec_keeps_pending (c : Instr) (s t : State) (done : exec c s = .next t) : t.pending = s.pending := by
  rcases instr_link_cases c with rfl | off | event | field | line
  · cases done
    rfl
  · exact exec_offLinks_pending c s t off done
  · exact exec_linkEvent_pending c s t event done
  · exact exec_fieldRequest_pending c s t field done
  · exact exec_lineRequest_pending c s t line done

/-- No command ends in a fault or a refusal: each arm answers a next state. -/
theorem exec_completes (c : Instr) (s : State) : ∃ t, exec c s = .next t := by
  cases c <;> exact ⟨_, rfl⟩

/-- Settles O2: the next state is that of the command's own arm, and every command keeps the queue. -/
theorem everyCommandCompletes : Obligations.EveryCommandCompletes := by
  intro c s
  obtain ⟨t, done⟩ := exec_completes c s
  exact ⟨t, done, exec_keeps_pending c s t done⟩

end Sys2Proof.Machine
end
